-- ==== Sys2Proof/Word.lean ====
section
/-! DEFINITION. The quantities that cross the block's interface and the widths of its position fields.

Everything inside the block is a mathematical integer (00_scope.md R9); a bit vector stands only where the
interface itself is a string of bits: a byte of a command and the clock value. -/

namespace Sys2Proof

/-- One byte of a command string (20_memory.md R62). -/
abbrev Byte := BitVec 8

/-- The time input `now`: unsigned 64 bits, microseconds (10_state.md R45). -/
abbrev Time := BitVec 64

/-- The value lies in the range of a `W_POS` = 32 bit two's complement field: a position, a limit, a `sint`
(00_scope.md R7, 30_encoding.md R88). -/
abbrev FitsPos (v : Int) : Prop := -2147483648 ≤ v ∧ v ≤ 2147483647

/-- The four kinds of protocol error (43_queries_dispatch.md R199). -/
inductive ProtocolError where
  /-- `TOO_SHORT`: `len < 2`. -/
  | tooShort
  /-- `UNKNOWN_CODE`: the first two bytes are not one of the nineteen codes. -/
  | unknownCode
  /-- `MISSING_ARG`: a required field is absent or ill formed, or bytes follow the last field. -/
  | missingArg
  /-- `RANGE`: a field is well formed and its value is out of range. -/
  | range
  deriving DecidableEq, Repr

end Sys2Proof
end

