-- ==== Sys2Proof/Config.lean ====
section
/-! DEFINITION. The parameters of one implementation (00_scope.md R7) and the values the spec leaves open.

`Params` is what a controller is constructed with. State carries it, because the straps are listed with the state
(10_state.md R46, R49): a statement about every state is a statement about every value of the open parameters.
`Config.params` is the one controller that `State.reset` describes. Its open parameters are opaque constants
without a body: no proof can see what they are. -/

namespace Sys2Proof

/-- What a remaining-time estimate may read of the state, every numeric field of the record: it depends on the state
alone, not on `now` (20_memory.md R69, 43_queries_dispatch.md R197). -/
structure RemTimeArgs where
  /-- `S.state = RUNNING`. -/
  running : Bool
  /-- `S.absolutePosition`. -/
  absolutePosition : Int
  /-- `S.deltaPosition`. -/
  deltaPosition : Int
  /-- `S.targetPosition`. -/
  targetPosition : Int
  /-- `S.totalSteps`. -/
  totalSteps : Nat
  /-- `S.lowerLimit`. -/
  lowerLimit : Int
  /-- `S.upperLimit`. -/
  upperLimit : Int
  /-- `S.velocity`. -/
  velocity : Int
  /-- `S.velocityIncrement`. -/
  velocityIncrement : Nat
  /-- `S.maxVelocity`. -/
  maxVelocity : Nat
  /-- `S.rampSteps`. -/
  rampSteps : Nat
  /-- `S.rampDownStep`. -/
  rampDownStep : Nat
  /-- `S.nextStepDeadline`. -/
  nextStepDeadline : Nat
  deriving DecidableEq, Repr

/-- `REM_TIME`, the estimate `GT` returns, as a configuration field: the spec's default function, or another one
(43_queries_dispatch.md R197, 00_scope.md R7, 93_implementation_defined.md U8). -/
inductive RemTime where
  /-- The function of R197, the default. -/
  | formula
  /-- Another estimate, of which nothing is known: a free function for each number. -/
  | other (id : Nat)
  deriving DecidableEq, Repr

/-- The construction parameters of one controller (00_scope.md R7). -/
structure Params where
  /-- `K_RAMP`, the constant of the ramp table (40_motion_state.md R126). -/
  kRamp : Nat
  /-- `RAMP_RESET`, the ramp factor in force after reset. -/
  rampReset : Nat
  /-- `T_GUARD_US`, from arming to the first step deadline (41_ramp_planner.md R145). -/
  tGuardUs : Nat
  /-- `T_PULSE_US`, the width of the step pulse; it enters the port view only (42_step_scheduler.md R165). -/
  tPulseUs : Nat
  /-- `T_HOME_US`, the delay between homing steps; it enters the port view only (44_homing.md R211). -/
  tHomeUs : Nat
  /-- `POL_EN`: the electrical level that means `ACTIVE` on `out.en` is high. -/
  polEn : Bool
  /-- `POL_DIR`: the electrical level that means `FWD` on `out.dir` is high. -/
  polDir : Bool
  /-- `POL_STEP`: the electrical level that means `ACTIVE` on `out.step` is high. -/
  polStep : Bool
  /-- `POL_LLS`: the electrical level that means `TRIGGERED` on `in.lls` is high. -/
  polLls : Bool
  /-- `POL_ULS`: the electrical level that means `TRIGGERED` on `in.uls` is high. -/
  polUls : Bool
  /-- `LLS_CONFIGURED`: the lower limit-switch input exists (10_state.md R46). -/
  llsConfigured : Bool
  /-- `ULS_CONFIGURED`: the upper limit-switch input exists (10_state.md R46). -/
  ulsConfigured : Bool
  /-- `REM_TIME`, the estimate `GT` returns (43_queries_dispatch.md R197). -/
  remTime : RemTime
  deriving DecidableEq, Repr

/-- The bounds the spec puts on the open parameters: 72 ≤ `K_RAMP` ≤ 200 000, `RAMP_RESET` a factor 0 to 9
(00_scope.md R7, 40_motion_state.md R126). -/
abbrev Params.Wf (p : Params) : Prop := 72 ≤ p.kRamp ∧ p.kRamp ≤ 200000 ∧ p.rampReset ≤ 9

namespace Config

/-- `LOWER_RESET` (00_scope.md R7, the spec's decision D25). -/
abbrev lowerReset : Int := -2000000000

/-- `UPPER_RESET` (00_scope.md R7, the spec's decision D25). -/
abbrev upperReset : Int := 2000000000

/-- The microseconds of a second, the dividend of the step interval (42_step_scheduler.md R171). -/
abbrev microsPerSecond : Nat := 1000000

/-- How far `K_RAMP` lies above its lower bound 72; the bound 200 000 is the type's. Free. -/
opaque kRampAbove72 : Fin 199929

/-- `RAMP_RESET`. Free. -/
opaque rampReset : Fin 10

/-- `T_GUARD_US`. Free. -/
opaque tGuardUs : Nat

/-- `T_PULSE_US`. Free. -/
opaque tPulseUs : Nat

/-- `T_HOME_US`. Free. -/
opaque tHomeUs : Nat

/-- `POL_EN`. Free. -/
opaque polEn : Bool

/-- `POL_DIR`. Free. -/
opaque polDir : Bool

/-- `POL_STEP`. Free. -/
opaque polStep : Bool

/-- `POL_LLS`. Free. -/
opaque polLls : Bool

/-- `POL_ULS`. Free. -/
opaque polUls : Bool

/-- `LLS_CONFIGURED`. Free. -/
opaque llsConfigured : Bool

/-- `ULS_CONFIGURED`. Free. -/
opaque ulsConfigured : Bool

/-- `REM_TIME`: the default the spec gives (00_scope.md R7). -/
def remTime : RemTime := .formula

/-- The parameters of the controller that `State.reset` describes. -/
def params : Params :=
  { kRamp := 72 + kRampAbove72.val
    rampReset := rampReset.val
    tGuardUs := tGuardUs
    tPulseUs := tPulseUs
    tHomeUs := tHomeUs
    polEn := polEn
    polDir := polDir
    polStep := polStep
    polLls := polLls
    polUls := polUls
    llsConfigured := llsConfigured
    ulsConfigured := ulsConfigured
    remTime := remTime }

/-- `VERSION_STRING`, the reply of `GV` (43_queries_dispatch.md R196). Free. -/
opaque versionString : List Byte

/-- The first byte of `ERRTEXT[kind]`, which makes the text non-empty (30_encoding.md R107). Free. -/
opaque errTextHead : ProtocolError → Byte

/-- The bytes of `ERRTEXT[kind]` after the first (30_encoding.md R107). Free. -/
opaque errTextTail : ProtocolError → List Byte

/-- The estimates other than the default one, by their number (43_queries_dispatch.md R197). Free. -/
opaque otherRemTime : Nat → RemTimeArgs → Nat

/-- What the default estimate would be, by the distance left, in a `RUNNING` state whose `maxVelocity` is 0, where
the formula divides by zero (43_queries_dispatch.md R197); no run reaches such a state. Free. -/
opaque remTimeNoVelocity : Nat → Nat

end Config

end Sys2Proof
end

