-- ==== Sys2Proof/Syntax.lean ====
section
/-! DEFINITION. The operations of the block: nineteen text commands, the poll request and reset
(30_encoding.md R80, R91 to R93). -/

namespace Sys2Proof

/-- One operation, decoded. A row of spec/opcode_table.json each. The inputs every operation is handed (the time and
the switch samples, 00_scope.md R6) are no part of the operation: the machine reads them from its input lines. -/
inductive Instr where
  /-- `EN`, enable (R120). -/
  | en
  /-- `DI`, disable (R121). -/
  | di
  /-- `ES`, emergency stop (R127). -/
  | es
  /-- `FH`, find home (R210). -/
  | fh
  /-- `SH`, set home (R122). -/
  | sh
  /-- `SL`, set the lower soft limit to `v` (R123). -/
  | sl (v : Int)
  /-- `SU`, set the upper soft limit to `v` (R124). -/
  | su (v : Int)
  /-- `SR`, set the ramp factor `r` (R125). -/
  | sr (r : Nat)
  /-- `RA`, rotate to the absolute position `target` at cruise velocity `vel` (R146). -/
  | ra (vel : Nat) (target : Int)
  /-- `RR`, rotate by the signed step count `count` at cruise velocity `vel` (R147). -/
  | rr (vel : Nat) (count : Int)
  /-- `RH`, rotate to home (R148). -/
  | rh
  /-- `RL`, rotate to the lower limit (R149). -/
  | rl
  /-- `RU`, rotate to the upper limit (R150). -/
  | ru
  /-- `GA`, query the absolute position (R191). -/
  | ga
  /-- `GR`, query the delta position (R192). -/
  | gr
  /-- `GL`, query the lower limit (R193). -/
  | gl
  /-- `GU`, query the upper limit (R194). -/
  | gu
  /-- `GT`, query the remaining time (R195). -/
  | gt
  /-- `GV`, query the version (R196). -/
  | gv
  /-- `POLL`, the poll request (R160). -/
  | poll
  /-- `RESET`, construction of the controller (R250). -/
  | reset
  deriving DecidableEq, Repr

end Sys2Proof
end

