-- ==== Sys2Proof/WellFormed.lean ====
section
/-! DEFINITION. Which decoded operations a request can spell: the ranges of the numeric fields
(30_encoding.md R88 to R90, 41_ramp_planner.md R140). -/

namespace Sys2Proof

/-- Every field of the operation has a value some accepted spelling gives it: a `sint` in 32 bits, a ramp digit
0 to 9, a velocity 1 to 9999. -/
def Instr.wellFormed : Instr → Bool
  | .en => true
  | .di => true
  | .es => true
  | .fh => true
  | .sh => true
  | .sl v => decide (FitsPos v)
  | .su v => decide (FitsPos v)
  | .sr r => decide (r ≤ 9)
  | .ra vel target => decide (1 ≤ vel ∧ vel ≤ 9999 ∧ FitsPos target)
  | .rr vel count => decide (1 ≤ vel ∧ vel ≤ 9999 ∧ FitsPos count)
  | .rh => true
  | .rl => true
  | .ru => true
  | .ga => true
  | .gr => true
  | .gl => true
  | .gu => true
  | .gt => true
  | .gv => true
  | .poll => true
  | .reset => true

/-- `Instr.wellFormed` as a proposition. -/
abbrev Instr.WellFormed (i : Instr) : Prop := i.wellFormed = true

end Sys2Proof
end

