-- ==== Sys2Proof/Decode.lean ====
section
/-! DEFINITION. Requests, the decoder (30_encoding.md R82 to R96, 43_queries_dispatch.md R190), the encoder, the
decimal rendering of a number (30_encoding.md R106), and the reading of a table word. -/

namespace Sys2Proof

/-- What the host presents, less the inputs it hands over with it: the three kinds of 30_encoding.md R80. Only a
command has bytes; its length is the list's. -/
inductive Request where
  /-- `RESET`: no operands (R93). -/
  | reset
  /-- `POLL`: no text (R92). -/
  | poll
  /-- `CMD`: the command string (R81). -/
  | cmd (text : List Byte)
  deriving DecidableEq, Repr

/-! ## Numeric fields -/

/-- The value of an ASCII digit, `'0'` = 0x30 to `'9'` = 0x39 (30_encoding.md R90). -/
def digitValue (b : Byte) : Option Nat :=
  if 0x30 ≤ b.toNat ∧ b.toNat ≤ 0x39 then some (b.toNat - 0x30) else none

/-- Reads decimal digits after a value `acc`, most significant first (20_memory.md R65). -/
def digitsFrom (acc : Nat) : List Byte → Option Nat
  | [] => some acc
  | b :: bs =>
    match digitValue b with
    | some d => digitsFrom (10 * acc + d) bs
    | none => none

/-- One to ten ASCII digits and nothing else (30_encoding.md R88). -/
def decodeDigits (bs : List Byte) : Option Nat :=
  if 1 ≤ bs.length ∧ bs.length ≤ 10 then digitsFrom 0 bs else none

/-- A `sint`: an optional sign byte, `'+'` = 0x2B or `'-'` = 0x2D, then one to ten digits (30_encoding.md R88). -/
def decodeSint : List Byte → Option Int
  | [] => none
  | b :: bs =>
    if b = 0x2B#8 then (decodeDigits bs).map fun (n : Nat) => (n : Int)
    else if b = 0x2D#8 then (decodeDigits bs).map fun (n : Nat) => -(n : Int)
    else (decodeDigits (b :: bs)).map fun (n : Nat) => (n : Int)

/-! ## Formats and the code map -/

/-- A code's format with what its fields make (30_encoding.md R83). -/
inductive Format where
  /-- `N`: the code only (R84). -/
  | n (i : Instr)
  /-- `I`: one `sint` (R85). -/
  | i (make : Int → Instr)
  /-- `D`: one decimal digit (R86). -/
  | d (make : Nat → Instr)
  /-- `V`: a 4-digit velocity and one `sint` (R87). -/
  | v (make : Nat → Int → Instr)

/-- The nineteen codes as 16-bit values `cmd[0] ++ cmd[1]`, with their formats (30_encoding.md R91). -/
def codeTable : List (Nat × Format) :=
  [ (0x454E, .n .en), (0x4449, .n .di), (0x4553, .n .es), (0x4648, .n .fh), (0x5348, .n .sh),
    (0x534C, .i .sl), (0x5355, .i .su), (0x5352, .d .sr),
    (0x5241, .v .ra), (0x5252, .v .rr), (0x5248, .n .rh), (0x524C, .n .rl), (0x5255, .n .ru),
    (0x4741, .n .ga), (0x4752, .n .gr), (0x474C, .n .gl), (0x4755, .n .gu), (0x4754, .n .gt), (0x4756, .n .gv) ]

/-- The 16-bit opcode of a code's two letters, the first in the high byte (20_memory.md R64). -/
def opcodeOf (c0 c1 : Byte) : Nat := 256 * c0.toNat + c1.toNat

/-- Check 3 of the dispatcher: the bytes after the code against the code's format
(43_queries_dispatch.md R190). -/
def decodeArgs (f : Format) (args : List Byte) : Except ProtocolError Instr :=
  match f with
  | .n i => if args = [] then .ok i else .error .missingArg
  | .d make =>
    match args with
    | [] => .error .missingArg
    | [b] => match digitValue b with
      | some r => .ok (make r)
      | none => .error .range
    | _ => .error .range
  | .i make =>
    match decodeSint args with
    | some v => if FitsPos v then .ok (make v) else .error .range
    | none => .error .missingArg
  | .v make =>
    match args with
    | d3 :: d2 :: d1 :: d0 :: rest =>
      match digitsFrom 0 [d3, d2, d1, d0], decodeSint rest with
      | some vel, some v => if vel = 0 ∨ ¬ FitsPos v then .error .range else .ok (make vel v)
      | _, _ => .error .missingArg
    | _ => .error .missingArg

/-- Checks 1 to 3 of the dispatcher (43_queries_dispatch.md R190). They read the string alone. -/
def decodeText (cmd : List Byte) : Except ProtocolError Instr :=
  match cmd with
  | c0 :: c1 :: args =>
    match codeTable.lookup (opcodeOf c0 c1) with
    | some f => decodeArgs f args
    | none => .error .unknownCode
  | _ => .error .tooShort

/-- The operation a request asks for, or the protocol error its text is. -/
def decode : Request → Except ProtocolError Instr
  | .reset => .ok .reset
  | .poll => .ok .poll
  | .cmd text => decodeText text

/-! ## The encoder -/

/-- The ASCII digit of a value 0 to 9. -/
def digitByte (d : Nat) : Byte := BitVec.ofNat 8 (0x30 + d)

/-- Puts the decimal digits of `n` before `acc`, least significant last; the fuel bounds the number of digits. -/
def renderDigits : Nat → Nat → List Byte → List Byte
  | 0, _, acc => acc
  | fuel + 1, n, acc =>
    if n < 10 then digitByte n :: acc
    else renderDigits fuel (n / 10) (digitByte (n % 10) :: acc)

/-- The digits of `n`, most significant first, no leading zeros, `0` for zero (30_encoding.md R106). -/
def renderNat (n : Nat) : List Byte := renderDigits (n + 1) n []

/-- The decimal rendering of `n`: `'-'` before the rendering of `−n` when it is negative (30_encoding.md R106). -/
def renderInt (n : Int) : List Byte :=
  if n < 0 then 0x2D#8 :: renderNat n.natAbs else renderNat n.natAbs

/-- The velocity field: exactly four digits, leading zeros written (30_encoding.md R89). -/
def renderVel (vel : Nat) : List Byte :=
  [digitByte (vel / 1000 % 10), digitByte (vel / 100 % 10), digitByte (vel / 10 % 10), digitByte (vel % 10)]

/-- The two letters of an opcode, the high byte first (20_memory.md R64). -/
def codeBytes (opcode : Nat) : List Byte := [BitVec.ofNat 8 (opcode / 256), BitVec.ofNat 8 opcode]

/-- The command whose code is `opcode` and whose fields are spelt `args`. -/
def commandOf (opcode : Nat) (args : List Byte) : Request := .cmd (codeBytes opcode ++ args)

/-- The request that asks for an operation, each field in its shortest spelling, without a `'+'`
(30_encoding.md R84 to R93). -/
def encode : Instr → Request
  | .en => commandOf 0x454E []
  | .di => commandOf 0x4449 []
  | .es => commandOf 0x4553 []
  | .fh => commandOf 0x4648 []
  | .sh => commandOf 0x5348 []
  | .sl v => commandOf 0x534C (renderInt v)
  | .su v => commandOf 0x5355 (renderInt v)
  | .sr r => commandOf 0x5352 [digitByte r]
  | .ra vel target => commandOf 0x5241 (renderVel vel ++ renderInt target)
  | .rr vel count => commandOf 0x5252 (renderVel vel ++ renderInt count)
  | .rh => commandOf 0x5248 []
  | .rl => commandOf 0x524C []
  | .ru => commandOf 0x5255 []
  | .ga => commandOf 0x4741 []
  | .gr => commandOf 0x4752 []
  | .gl => commandOf 0x474C []
  | .gu => commandOf 0x4755 []
  | .gt => commandOf 0x4754 []
  | .gv => commandOf 0x4756 []
  | .poll => .poll
  | .reset => .reset

/-! ## Table words -/

/-- `n` bytes of `w`, the least significant first. -/
def bytesOf : Nat → Nat → List Byte
  | 0, _ => []
  | n + 1, w => BitVec.ofNat 8 w :: bytesOf n (w / 256)

/-- The shortest argument text of a code when the table gives the code alone: the digit zero for each numeric
field, but the least legal velocity 0001 (DESIGN CHOICE, log entry 12: the table numbers no bit of an argument). -/
def leastArgs (opcode : Nat) : List Byte :=
  match codeTable.lookup opcode with
  | some (.n _) => []
  | some (.i _) => renderInt 0
  | some (.d _) => [digitByte 0]
  | some (.v _) => renderVel 1 ++ renderInt 0
  | none => []

/-- The command string of a table word of `nbits` bits: the 16-bit code, high byte first, then the bytes above it in
order; where the table gives the code alone, the code's shortest argument text follows. -/
def tableText (nbits w : Nat) : List Byte :=
  match nbits / 8 with
  | 0 => []
  | 1 => bytesOf 1 w
  | 2 => codeBytes (w % 65536) ++ leastArgs (w % 65536)
  | n + 3 => codeBytes (w % 65536) ++ bytesOf (n + 1) (w / 65536)

/-- The operation the decoder reads from a table word. -/
def decodeTableWord (nbits w : Nat) : Option Instr :=
  match decode (.cmd (tableText nbits w)) with
  | .ok i => some i
  | .error _ => none

end Sys2Proof
end

