-- ==== Sys2Proof/Machine/RampTable.lean ====
section
/-! DEFINITION. The ramp table (40_motion_state.md R126). -/

namespace Sys2Proof

/-- `VINC[r]`: 0 for factor 0, else `K_RAMP div r` (40_motion_state.md R126). -/
def Params.vinc (p : Params) (r : Nat) : Nat := if r = 0 then 0 else p.kRamp / r

end Sys2Proof
end

