-- ==== Sys2Proof/Machine/State.lean ====
section
/-! DEFINITION. The state of the machine, its value at reset, and the reasons a step could stop.

The block's own state is the record of 10_state.md R20 to R42 with the construction parameters of R46. The model adds
what stands outside the block or is handed to its caller: the inputs of the operation being executed, the requests the
host has still to present, how far a blocking `FH` has come, the result of the last operation and the output trace. -/

namespace Sys2Proof.Machine

/-- `S.state`, the MotorState (10_state.md R22). -/
inductive MotorState where
  /-- Driver off, home reference invalid. -/
  | disabled
  /-- Driver engaged, no motion. -/
  | enabled
  /-- A move is in progress. -/
  | running
  /-- Emergency hold; only `EN` leads back to `enabled`. -/
  | estopped
  deriving DecidableEq, Repr

/-- `S.stepIncrement`, `+1` or `−1` (10_state.md R28). -/
inductive StepIncrement where
  /-- `+1`. -/
  | plus
  /-- `−1`. -/
  | minus
  deriving DecidableEq, Repr

/-- The logical level of `out.en` and `out.step` (10_state.md R40, R42). -/
inductive DriveLevel where
  /-- `ACTIVE`. -/
  | active
  /-- `INACTIVE`. -/
  | inactive
  deriving DecidableEq, Repr

/-- The logical level of `out.dir` (10_state.md R41). -/
inductive DirLevel where
  /-- `FWD`. -/
  | fwd
  /-- `REV`. -/
  | rev
  deriving DecidableEq, Repr

/-- The logical level of a limit-switch input (10_state.md R43, R44). -/
inductive SwitchLevel where
  /-- `TRIGGERED`. -/
  | triggered
  /-- `CLEAR`. -/
  | clear
  deriving DecidableEq, Repr

/-- What successive samples of a switch line give: the listed levels, then `rest` for ever. Every stream on which
`FH` returns reads as such a stream up to the sample that ends it, and every stream on which it does not return is
eventually constant (44_homing.md R213), so no behaviour of `FH` is lost. -/
structure SampleStream where
  /-- The levels of the coming samples, the next one first. -/
  script : List SwitchLevel
  /-- The level of every sample after them. -/
  rest : SwitchLevel
  deriving DecidableEq, Repr

/-- The inputs of one operation (00_scope.md R6, 20_memory.md R68): free, for the host and the environment to give. -/
structure Inputs where
  /-- `now`, sampled once per operation. -/
  now : Time
  /-- The samples of `in.lls`. -/
  lls : SampleStream
  /-- The one sample of `in.uls`. -/
  uls : SwitchLevel
  deriving DecidableEq, Repr

/-- One operation as the host presents it: the request and the inputs handed over with it. -/
structure Presented where
  /-- What is asked for. -/
  request : Request
  /-- The time and the switch samples. `RESET` reads none of them. -/
  inputs : Inputs
  deriving DecidableEq, Repr

/-- Where inside its blocking loops an unfinished `FH` stands (44_homing.md R211). -/
inductive HomingPhase where
  /-- In the loop that runs while `in.lls = CLEAR`. -/
  | seek
  /-- In the loop that runs while `in.lls = TRIGGERED`. -/
  | backOff
  deriving DecidableEq, Repr

/-- `sig`, the result code of a poll (30_encoding.md R101). -/
inductive Signal where
  /-- `IDLE`: the poll did nothing. -/
  | idle
  /-- `STEPPED`: a step, and the move continues. -/
  | stepped
  /-- `COMPLETE`: the last step of the move. -/
  | complete
  /-- `RANGE_LOWER`: the next step would pass `lowerLimit`. -/
  | rangeLower
  /-- `RANGE_UPPER`: the next step would pass `upperLimit`. -/
  | rangeUpper
  /-- `LIMIT_LOWER`: a step, and the lower switch is triggered. -/
  | limitLower
  /-- `LIMIT_UPPER`: a step, and the upper switch is triggered. -/
  | limitUpper
  deriving DecidableEq, Repr

/-- The reply of a command (30_encoding.md R105). -/
inductive Reply where
  /-- `Empty`: the empty string. -/
  | empty
  /-- `Number(n)`: the decimal rendering of `n`. -/
  | number (n : Int)
  /-- `Version`: `VERSION_STRING`. -/
  | version
  /-- `Error(kind)`: `ERRTEXT[kind]`. -/
  | error (kind : ProtocolError)
  deriving DecidableEq, Repr

/-- What the operation executed last returned to the host (00_scope.md R11). -/
inductive OpResult where
  /-- Nothing: before any operation, after `RESET` (70_reset_and_hazards.md R250), and while `FH` has not returned. -/
  | nothing
  /-- The pair (`sig`, `pos`) of a poll (30_encoding.md R101). -/
  | polled (sig : Signal) (pos : Int)
  /-- The reply of a command. -/
  | replied (r : Reply)
  deriving DecidableEq, Repr

/-- One event of the output trace (00_scope.md R11). -/
inductive OutputEvent where
  /-- A write to `out.en`. -/
  | enWrite (level : DriveLevel)
  /-- A write to `out.dir`. -/
  | dirWrite (level : DirLevel)
  /-- A write to `out.step` other than a pulse's (`ES` and `RESET`). -/
  | stepWrite (level : DriveLevel)
  /-- `StepPulse(d)`: `out.step` driven active and then inactive (42_step_scheduler.md R165). -/
  | stepPulse (d : StepIncrement)
  deriving DecidableEq, Repr

/-- An event with its tag: the operation that made it and that operation's `now` (00_scope.md R11). -/
structure TraceEntry where
  /-- The operation that made the event. -/
  op : Instr
  /-- The operation's `now`; `RESET` takes none. -/
  now : Option Time
  /-- The event. -/
  event : OutputEvent
  deriving DecidableEq, Repr

/-- The machine. Integer fields are unbounded, as the spec allows (92_eei_decisions.md D2); that every value fits the
width the spec gives is part of the invariant of Safety.lean. -/
structure State where
  /-- `S.state` (R22). -/
  state : MotorState
  /-- `S.homed`, the only status flag (R23). -/
  homed : Bool
  /-- `S.absolutePosition`, signed 32 bits (R24). -/
  absolutePosition : Int
  /-- `S.deltaPosition`, signed 33 bits (R25). -/
  deltaPosition : Int
  /-- `S.targetPosition`, signed 32 bits (R26). -/
  targetPosition : Int
  /-- `S.totalSteps`, unsigned 32 bits (R27). -/
  totalSteps : Nat
  /-- `S.stepIncrement`, ±1 (R28). -/
  stepIncrement : StepIncrement
  /-- `S.lowerLimit`, signed 32 bits (R29). -/
  lowerLimit : Int
  /-- `S.upperLimit`, signed 32 bits (R29). -/
  upperLimit : Int
  /-- `S.velocity`, signed 32 bits, steps per second (R30). -/
  velocity : Int
  /-- `S.velocityIncrement`, unsigned 32 bits (R31). -/
  velocityIncrement : Nat
  /-- `S.maxVelocity`, 0 to 9999 (R32). -/
  maxVelocity : Nat
  /-- `S.rampSteps`, unsigned 32 bits (R33). -/
  rampSteps : Nat
  /-- `S.rampDownStep`, unsigned 32 bits (R34). -/
  rampDownStep : Nat
  /-- `S.nextStepDeadline`, unsigned 64 bits, microseconds (R35). -/
  nextStepDeadline : Nat
  /-- `out.en` (R40). -/
  outEn : DriveLevel
  /-- `out.dir` (R41). -/
  outDir : DirLevel
  /-- `out.step` (R42). -/
  outStep : DriveLevel
  /-- The construction parameters, the straps `LLS_CONFIGURED` and `ULS_CONFIGURED` (R46) among them. -/
  params : Params
  /-- The input lines as the operation being executed sees them (R43 to R45). -/
  inputs : Inputs
  /-- The model's: the operations the host will present, the next one first. The block keeps no queue (R48). -/
  inbox : List Presented
  /-- The model's: the loop a blocking `FH` is in; `none` at every operation boundary. -/
  homing : Option HomingPhase
  /-- The model's: what the operation executed last returned. -/
  result : OpResult
  /-- The model's: the output trace, the oldest event first. -/
  trace : List TraceEntry
  deriving DecidableEq, Repr

/-- The inputs standing at the lines before any operation is presented. No rule reads them (log entry 3). -/
def Inputs.quiet : Inputs := { now := 0#64, lls := { script := [], rest := .clear }, uls := .clear }

/-- The state a controller constructed with parameters `p` is in (10_state.md R49). -/
def State.construct (p : Params) : State :=
  { state := .disabled
    homed := false
    absolutePosition := 0
    deltaPosition := 0
    targetPosition := 0
    totalSteps := 0
    stepIncrement := .plus
    lowerLimit := Config.lowerReset
    upperLimit := Config.upperReset
    velocity := 0
    velocityIncrement := p.vinc p.rampReset
    maxVelocity := 0
    rampSteps := 0
    rampDownStep := 0
    nextStepDeadline := 0
    outEn := .inactive
    outDir := .fwd
    outStep := .inactive
    params := p
    inputs := Inputs.quiet
    inbox := []
    homing := none
    result := .nothing
    trace := [] }

/-- The machine right after reset (70_reset_and_hazards.md R250): the construction parameters are the open ones. -/
def State.reset : State := State.construct Config.params

/-- Why a step could stop with a fault. The block has no such reason: "all faults return control to the caller"
(00_scope.md R12), and its motion faults are poll results (60_exceptions.md R221). -/
inductive Fault where
  deriving DecidableEq, Repr

/-- Why a step could refuse an instruction. -/
inductive Refusal where
  /-- An operation without a meaning in the model. `exec` alone could answer it, in a refused arm; it has none. Safe. -/
  | notModelled (mnemonic : String)
  deriving DecidableEq, Repr

end Sys2Proof.Machine
end

