-- ==== Sys2Proof/Machine/Flags.lean ====
section
/-! DEFINITION. The one status flag `S.homed` (10_state.md R23) with the fields that are written beside it. -/

namespace Sys2Proof.Machine

/-- The set-home operation: both position fields 0, `homed` true (40_motion_state.md R120, R122, 44_homing.md R212). -/
def State.setHome (s : State) : State :=
  { s with absolutePosition := 0, deltaPosition := 0, homed := true }

/-- The position reference is lost: `homed` false, the counts kept (40_motion_state.md R121, R127). -/
def State.clearHomed (s : State) : State := { s with homed := false }

end Sys2Proof.Machine
end

