-- ==== Sys2Proof/Machine/Operands.lean ====
section
/-! DEFINITION. The values an operation reads: the input lines, the step increment as a number, the candidate of a
poll, the steps taken, the target of a relative move, the direction of an armed one. -/

namespace Sys2Proof.Machine

/-- `+1` or `−1` as an integer (10_state.md R28). -/
def StepIncrement.toInt : StepIncrement → Int
  | .plus => 1
  | .minus => -1

/-- The direction level that belongs to a step increment (10_state.md R41). -/
def StepIncrement.dir : StepIncrement → DirLevel
  | .plus => .fwd
  | .minus => .rev

/-- `sign(d)` of a distance that is not 0 (00_scope.md R9, 41_ramp_planner.md R144). -/
def StepIncrement.ofDistance (d : Int) : StepIncrement := if d > 0 then .plus else .minus

/-- The level the next sample gives (44_homing.md R211). -/
def SampleStream.head (t : SampleStream) : SwitchLevel := t.script.headD t.rest

/-- The stream after one sample. -/
def SampleStream.tail (t : SampleStream) : SampleStream := { t with script := t.script.tail }

/-- The candidate next position, unbounded (42_step_scheduler.md R162). -/
def State.candidate (s : State) : Int := s.absolutePosition + s.stepIncrement.toInt

/-- `n`, the steps taken: `deltaPosition × stepIncrement` (42_step_scheduler.md R169). -/
def State.stepsTaken (s : State) : Int := s.deltaPosition * s.stepIncrement.toInt

/-- The target of `RR`: the sum in the mathematical integers (41_ramp_planner.md R147). -/
def State.relativeTarget (s : State) (count : Int) : Int := s.absolutePosition + count

/-- The poll's gate: homed, running, and `now` has reached the deadline (42_step_scheduler.md R161). -/
abbrev State.Due (s : State) : Prop :=
  s.homed = true ∧ s.state = .running ∧ s.nextStepDeadline ≤ s.inputs.now.toNat

/-- The lower switch exists and its sample is `TRIGGERED` (42_step_scheduler.md R167). -/
abbrev State.LowerSwitchTrips (s : State) : Prop :=
  s.params.llsConfigured = true ∧ s.inputs.lls.head = .triggered

/-- The upper switch exists and its sample is `TRIGGERED` (42_step_scheduler.md R167). -/
abbrev State.UpperSwitchTrips (s : State) : Prop :=
  s.params.ulsConfigured = true ∧ s.inputs.uls = .triggered

end Sys2Proof.Machine
end

