-- ==== Sys2Proof/Machine/Ops.lean ====
section
/-! DEFINITION. The shared operations: presenting an operation, replying, signalling, driving an output line, pulsing,
ending a move with a signal, arming a move, and one iteration of the homing loops. -/

namespace Sys2Proof.Machine

/-! ## Presenting and answering -/

/-- The inputs at the lines once an operation is presented: those handed over with it (00_scope.md R6), but `RESET`
takes none (70_reset_and_hazards.md R250). -/
def State.inputsAt (s : State) (p : Presented) : Inputs :=
  match p.request with
  | .reset => s.inputs
  | .poll => p.inputs
  | .cmd _ => p.inputs

/-- The head of the inbox is presented: its inputs stand at the lines, and nothing has been returned yet. -/
def State.present (s : State) (p : Presented) (later : List Presented) : State :=
  { s with inputs := s.inputsAt p, inbox := later, result := .nothing }

/-- `reply R`: ends a command (00_scope.md R10). -/
def State.reply (s : State) (r : Reply) : State := { s with result := .replied r }

/-- `signal X`: ends a poll with `sig` and the position it leaves (30_encoding.md R102). -/
def State.signal (s : State) (sig : Signal) : State := { s with result := .polled sig s.absolutePosition }

/-- A protocol error: the reply says its kind and nothing else happens (43_queries_dispatch.md R198). -/
def State.protocolError (s : State) (kind : ProtocolError) : State := s.reply (.error kind)

/-- The end of a move by a fault or by completion: `RUNNING` to `ENABLED`, the signal returned, nothing saved and
nothing else written (60_exceptions.md R231, 42_step_scheduler.md R168). -/
def State.endMove (s : State) (sig : Signal) : State := ({ s with state := .enabled } : State).signal sig

/-! ## Output lines -/

/-- Appends an event, tagged with the operation and its `now`, to the output trace (00_scope.md R11). -/
def State.emit (s : State) (op : Instr) (e : OutputEvent) : State :=
  { s with trace := s.trace ++ [{ op := op, now := some s.inputs.now, event := e }] }

/-- `out.en <- level` (10_state.md R40). -/
def State.driveEn (s : State) (op : Instr) (level : DriveLevel) : State :=
  ({ s with outEn := level } : State).emit op (.enWrite level)

/-- `out.dir <- level` (10_state.md R41). -/
def State.driveDir (s : State) (op : Instr) (level : DirLevel) : State :=
  ({ s with outDir := level } : State).emit op (.dirWrite level)

/-- `out.step <- level` outside a pulse (40_motion_state.md R127). -/
def State.driveStep (s : State) (op : Instr) (level : DriveLevel) : State :=
  ({ s with outStep := level } : State).emit op (.stepWrite level)

/-- `emit StepPulse(d)`: `out.step` is driven active and then inactive, one event (42_step_scheduler.md R165). -/
def State.pulse (s : State) (op : Instr) (d : StepIncrement) : State :=
  ({ s with outStep := .inactive } : State).emit op (.stepPulse d)

/-! ## Arming a move -/

/-- The move's parameters (41_ramp_planner.md R141, first lines). -/
def State.setMove (s : State) (target : Int) (vmax : Nat) : State :=
  { s with targetPosition := target, maxVelocity := vmax, totalSteps := (target - s.absolutePosition).natAbs }

/-- Ramp length and start velocity (41_ramp_planner.md R142). -/
def State.planRamp (s : State) (vmax : Nat) : State :=
  if s.velocityIncrement = 0 then { s with rampSteps := 0, velocity := vmax }
  else if vmax / s.velocityIncrement = 0 then { s with rampSteps := 0, velocity := vmax }
  else { s with rampSteps := vmax / s.velocityIncrement, velocity := 0 }

/-- Trapezoid or triangle (41_ramp_planner.md R143). -/
def State.planShape (s : State) : State :=
  if s.totalSteps > 2 * s.rampSteps then { s with rampDownStep := s.totalSteps - s.rampSteps }
  else { s with rampSteps := s.totalSteps / 2, rampDownStep := s.totalSteps / 2 }

/-- Direction, first deadline and `RUNNING` (41_ramp_planner.md R144, R145). -/
def State.launch (s : State) (op : Instr) : State :=
  let inc := StepIncrement.ofDistance (s.targetPosition - s.absolutePosition)
  let s := ({ s with stepIncrement := inc } : State).driveDir op inc.dir
  { s with deltaPosition := 0, nextStepDeadline := s.inputs.now.toNat + s.params.tGuardUs, state := .running }

/-- `arm(target, vmax)` (41_ramp_planner.md R141): the plan, then the no-op exit, then the launch. -/
def State.arm (s : State) (op : Instr) (target : Int) (vmax : Nat) : State :=
  let planned := ((s.setMove target vmax).planRamp vmax).planShape
  if target = s.absolutePosition then planned.reply .empty else (planned.launch op).reply .empty

/-- `arm` behind the state test of 41_ramp_planner.md R140: outside `ENABLED` the command replies `Empty` and does
nothing. -/
def State.armIfEnabled (s : State) (op : Instr) (target : Int) (vmax : Nat) : State :=
  if s.state = .enabled then s.arm op target vmax else s.reply .empty

/-- `arm` at the velocity `S.maxVelocity` holds, for `RH`, `RL` and `RU`: outside `ENABLED`, and with no velocity
ever given, the command replies `Empty` and does nothing (41_ramp_planner.md R148 to R150). -/
def State.armAtHeldVelocity (s : State) (op : Instr) (target : Int) : State :=
  if s.state = .enabled ∧ s.maxVelocity ≠ 0 then s.arm op target s.maxVelocity else s.reply .empty

/-! ## Homing -/

/-- One sample of `in.lls` is taken (44_homing.md R211: each is fresh). -/
def State.takeSample (s : State) : State := { s with inputs := { s.inputs with lls := s.inputs.lls.tail } }

/-- One sample inside `FH` (44_homing.md R211): a pulse while the loop's condition holds; at the end of the seek the
direction turns; at the end of the back-off the set-home operation (R212) and the reply. -/
def State.homingIteration (s : State) : State :=
  match s.homing, s.inputs.lls.head with
  | some .seek, .clear => s.takeSample.pulse .fh .minus
  | some .seek, .triggered => ({ s.takeSample with homing := some .backOff } : State).driveDir .fh .fwd
  | some .backOff, .triggered => s.takeSample.pulse .fh .plus
  | some .backOff, .clear => (({ s.takeSample with homing := none } : State).setHome).reply .empty
  | none, _ => s

/-- At most `n` samples of an unfinished `FH`, stopping when it returns. -/
def State.homingRun : Nat → State → State
  | 0, s => s
  | n + 1, s => if s.homing = none then s else State.homingRun n s.homingIteration

/-- Entering the seek loop: `out.dir <- REV` (44_homing.md R211). -/
def State.homingStart (s : State) : State := ({ s with homing := some .seek } : State).driveDir .fh .rev

end Sys2Proof.Machine
end

