-- ==== Sys2Proof/Machine/Construction.lean ====
section
/-! DEFINITION. Construction of the controller: `RESET` (70_reset_and_hazards.md). -/

namespace Sys2Proof.Machine

/-- The events of reset's writes to the three output lines, in the order of the table of 10_state.md R49; `RESET`
takes no `now`. -/
def resetEvents : List TraceEntry :=
  [ { op := .reset, now := none, event := .enWrite .inactive },
    { op := .reset, now := none, event := .dirWrite .fwd },
    { op := .reset, now := none, event := .stepWrite .inactive } ]

/-- `RESET` (R250): every field and output at its reset value; the construction parameters, the input lines, what the
host has still to present and the trace so far stand outside the block and stay. -/
def execReset (s : State) : Host.Outcome State Fault Refusal :=
  .next { State.construct s.params with
    inputs := s.inputs
    inbox := s.inbox
    trace := s.trace ++ resetEvents }

end Sys2Proof.Machine
end

