-- ==== Sys2Proof/Machine/Homing.lean ====
section
/-! DEFINITION. Homing: `FH` (44_homing.md). -/

namespace Sys2Proof.Machine

/-- `FH` (R210): needs `ENABLED` and a configured lower switch, else it replies `Empty` and does nothing. It runs over
the listed samples and one of the level that follows them; where it has not returned by then it never will (R213),
and the state says which loop it is in. -/
def execFh (s : State) : Host.Outcome State Fault Refusal :=
  .next (
    if s.state = .enabled ∧ s.params.llsConfigured = true then
      State.homingRun (s.inputs.lls.script.length + 1) s.homingStart
    else s.reply .empty)

end Sys2Proof.Machine
end

