-- ==== Sys2Proof/Machine/MotionState.lean ====
section
/-! DEFINITION. The Motion State operations `EN`, `DI`, `SH`, `SL`, `SU`, `SR`, `ES` (40_motion_state.md). -/

namespace Sys2Proof.Machine

/-- `EN` (R120): drive, enable, set home; in every state. -/
def execEn (s : State) : Host.Outcome State Fault Refusal :=
  let s := s.driveEn .en .active
  .next ((({ s with state := .enabled } : State).setHome).reply .empty)

/-- `DI` (R121): driver off, home lost; in every state. -/
def execDi (s : State) : Host.Outcome State Fault Refusal :=
  let s := s.driveEn .di .inactive
  .next ((({ s with state := .disabled } : State).clearHomed).reply .empty)

/-- `SH` (R122): set home when enabled, else nothing. -/
def execSh (s : State) : Host.Outcome State Fault Refusal :=
  .next ((if s.state = .enabled then s.setHome else s).reply .empty)

/-- `SL` (R123): taken when sign and order hold, else silently dropped. -/
def execSl (v : Int) (s : State) : Host.Outcome State Fault Refusal :=
  .next ((if v ≤ 0 ∧ v ≤ s.upperLimit then { s with lowerLimit := v } else s).reply .empty)

/-- `SU` (R124): taken when sign and order hold, else silently dropped. -/
def execSu (v : Int) (s : State) : Host.Outcome State Fault Refusal :=
  .next ((if 0 ≤ v ∧ s.lowerLimit ≤ v then { s with upperLimit := v } else s).reply .empty)

/-- `SR` (R125): `velocityIncrement <- VINC[r]` for a factor 0 to 9, else nothing. -/
def execSr (r : Nat) (s : State) : Host.Outcome State Fault Refusal :=
  .next ((if r ≤ 9 then { s with velocityIncrement := s.params.vinc r } else s).reply .empty)

/-- `ES` (R127): step and enable lines off, lockout, target pinned to the position. -/
def execEs (s : State) : Host.Outcome State Fault Refusal :=
  let s := (s.driveStep .es .inactive).driveEn .es .inactive
  let s := ({ s with state := .estopped } : State).clearHomed
  .next (({ s with targetPosition := s.absolutePosition } : State).reply .empty)

end Sys2Proof.Machine
end

