-- ==== Sys2Proof/Machine/Poll.lean ====
section
/-! DEFINITION. The Step Scheduler: `POLL` (42_step_scheduler.md R160, its lines L1 to L11). -/

namespace Sys2Proof.Machine

/-- The numeric code of a poll's signal, 3 bits (30_encoding.md R101). -/
def Signal.code : Signal → Nat
  | .idle => 0
  | .stepped => 1
  | .complete => 2
  | .rangeLower => 4
  | .rangeUpper => 5
  | .limitLower => 6
  | .limitUpper => 7

/-- L4 and L5: the pulse, then the commit of both position fields (R165, R166). -/
def State.commitStep (s : State) : State :=
  let s := s.pulse .poll s.stepIncrement
  { s with absolutePosition := s.candidate, deltaPosition := s.deltaPosition + s.stepIncrement.toInt }

/-- L8: the velocity after the ramp profile's update, before the floor (R169). -/
def State.rampedVelocity (s : State) : Int :=
  if s.stepsTaken ≤ s.rampSteps then s.velocity + s.velocityIncrement
  else if s.stepsTaken > s.rampDownStep then s.velocity - s.velocityIncrement
  else s.maxVelocity

/-- L9: the velocity floor (R170). -/
def State.flooredVelocity (s : State) : Int :=
  if s.rampedVelocity < 1 then max (s.velocityIncrement : Int) 1 else s.rampedVelocity

/-- The step interval `1 000 000 div velocity` (R171); after the floor the velocity is at least 1. -/
def stepInterval (velocity : Int) : Nat := Config.microsPerSecond / velocity.toNat

/-- L8 to L10: the new velocity, and the deadline built on the previous one (R169 to R171). -/
def State.scheduleNext (s : State) : State :=
  { s with
    velocity := s.flooredVelocity
    nextStepDeadline := s.nextStepDeadline + stepInterval s.flooredVelocity }

/-- L6 to L11, after the commit: switches, completion, or the next deadline (R167 to R172). -/
def State.afterStep (s : State) : State :=
  if s.LowerSwitchTrips then s.endMove .limitLower
  else if s.UpperSwitchTrips then s.endMove .limitUpper
  else if s.absolutePosition = s.targetPosition then s.endMove .complete
  else s.scheduleNext.signal .stepped

/-- `POLL` (R160): the gate, the range check, then the step. -/
def execPoll (s : State) : Host.Outcome State Fault Refusal :=
  .next (
    if ¬ s.Due then s.signal .idle
    else if s.candidate < s.lowerLimit then s.endMove .rangeLower
    else if s.candidate > s.upperLimit then s.endMove .rangeUpper
    else s.commitStep.afterStep)

end Sys2Proof.Machine
end

