-- ==== Sys2Proof/Machine/Queries.lean ====
section
/-! DEFINITION. The queries `GA`, `GR`, `GL`, `GU`, `GT`, `GV` (43_queries_dispatch.md) and the bytes of a reply. -/

namespace Sys2Proof.Machine

/-- What the estimate may read of a state. -/
def State.remTimeArgs (s : State) : RemTimeArgs :=
  { running := decide (s.state = .running)
    absolutePosition := s.absolutePosition
    deltaPosition := s.deltaPosition
    targetPosition := s.targetPosition
    totalSteps := s.totalSteps
    lowerLimit := s.lowerLimit
    upperLimit := s.upperLimit
    velocity := s.velocity
    velocityIncrement := s.velocityIncrement
    maxVelocity := s.maxVelocity
    rampSteps := s.rampSteps
    rampDownStep := s.rampDownStep
    nextStepDeadline := s.nextStepDeadline }

/-- The default estimate, milliseconds (R197): 0 outside `RUNNING`, else the time of the distance left at cruise speed;
a free value where that divides by zero. -/
def remTimeFormula (a : RemTimeArgs) : Nat :=
  let distance := (a.targetPosition - a.absolutePosition).natAbs
  if a.running = false then 0
  else if a.maxVelocity = 0 then Config.remTimeNoVelocity distance
  else distance * 1000 / a.maxVelocity

/-- The estimate a value of the parameter `REM_TIME` stands for (R197). -/
def RemTime.estimate : RemTime → RemTimeArgs → Nat
  | .formula, a => remTimeFormula a
  | .other id, a => Config.otherRemTime id a

/-- `REM_TIME(S)` (R195, R197): the controller's own estimate. -/
def State.remTime (s : State) : Nat := RemTime.estimate s.params.remTime s.remTimeArgs

/-- `GA` (R191). -/
def execGa (s : State) : Host.Outcome State Fault Refusal := .next (s.reply (.number s.absolutePosition))

/-- `GR` (R192). -/
def execGr (s : State) : Host.Outcome State Fault Refusal := .next (s.reply (.number s.deltaPosition))

/-- `GL` (R193). -/
def execGl (s : State) : Host.Outcome State Fault Refusal := .next (s.reply (.number s.lowerLimit))

/-- `GU` (R194). -/
def execGu (s : State) : Host.Outcome State Fault Refusal := .next (s.reply (.number s.upperLimit))

/-- `GT` (R195). -/
def execGt (s : State) : Host.Outcome State Fault Refusal := .next (s.reply (.number s.remTime))

/-- `GV` (R196). -/
def execGv (s : State) : Host.Outcome State Fault Refusal := .next (s.reply .version)

/-- The bytes of a reply (30_encoding.md R105 to R107); the version and error texts are open. -/
def Reply.text : Reply → List Byte
  | .empty => []
  | .number n => renderInt n
  | .version => Config.versionString
  | .error kind => Config.errTextHead kind :: Config.errTextTail kind

end Sys2Proof.Machine
end

