-- ==== Sys2Proof/Machine/Rotate.lean ====
section
/-! DEFINITION. The rotate commands `RA`, `RR`, `RH`, `RL`, `RU` (41_ramp_planner.md). -/

namespace Sys2Proof.Machine

/-- `RA` (R146): arm a move to `target`. -/
def execRa (vel : Nat) (target : Int) (s : State) : Host.Outcome State Fault Refusal :=
  .next (s.armIfEnabled (.ra vel target) target vel)

/-- `RR` (R147): arm a move by `count`; the state test comes before the range test of the sum. -/
def execRr (vel : Nat) (count : Int) (s : State) : Host.Outcome State Fault Refusal :=
  .next (
    if s.state = .enabled ∧ ¬ FitsPos (s.relativeTarget count) then s.protocolError .range
    else s.armIfEnabled (.rr vel count) (s.relativeTarget count) vel)

/-- `RH` (R148): arm a move to 0. -/
def execRh (s : State) : Host.Outcome State Fault Refusal :=
  .next (s.armAtHeldVelocity .rh 0)

/-- `RL` (R149): arm a move to `lowerLimit`. -/
def execRl (s : State) : Host.Outcome State Fault Refusal :=
  .next (s.armAtHeldVelocity .rl s.lowerLimit)

/-- `RU` (R150): arm a move to `upperLimit`. -/
def execRu (s : State) : Host.Outcome State Fault Refusal :=
  .next (s.armAtHeldVelocity .ru s.upperLimit)

end Sys2Proof.Machine
end

