-- ==== Sys2Proof/Machine/Dispatch.lean ====
section
/-! DEFINITION. Which meaning each operation has (43_queries_dispatch.md R201). -/

namespace Sys2Proof.Machine

def exec (i : Instr) (s : State) : Host.Outcome State Fault Refusal :=
  match i with
  | .en => Sys2Proof.Machine.execEn s
  | .di => Sys2Proof.Machine.execDi s
  | .es => Sys2Proof.Machine.execEs s
  | .fh => Sys2Proof.Machine.execFh s
  | .sh => Sys2Proof.Machine.execSh s
  | .sl v => Sys2Proof.Machine.execSl v s
  | .su v => Sys2Proof.Machine.execSu v s
  | .sr r => Sys2Proof.Machine.execSr r s
  | .ra vel target => Sys2Proof.Machine.execRa vel target s
  | .rr vel count => Sys2Proof.Machine.execRr vel count s
  | .rh => Sys2Proof.Machine.execRh s
  | .rl => Sys2Proof.Machine.execRl s
  | .ru => Sys2Proof.Machine.execRu s
  | .ga => Sys2Proof.Machine.execGa s
  | .gr => Sys2Proof.Machine.execGr s
  | .gl => Sys2Proof.Machine.execGl s
  | .gu => Sys2Proof.Machine.execGu s
  | .gt => Sys2Proof.Machine.execGt s
  | .gv => Sys2Proof.Machine.execGv s
  | .poll => Sys2Proof.Machine.execPoll s
  | .reset => Sys2Proof.Machine.execReset s

end Sys2Proof.Machine
end

