-- ==== Sys2Proof/Machine/Step.lean ====
section
/-! DEFINITION. One step: one operation of the host (00_scope.md R6), one more sample of an `FH` that does not return
(44_homing.md R213), or, with nothing presented, waiting (70_reset_and_hazards.md R250). -/

namespace Sys2Proof.Machine

/-- One step. Inside an unfinished `FH` nothing else runs (44_homing.md R213). Otherwise the next operation of the
inbox is presented, decoded and executed; a text that is no command is answered with its protocol error
(43_queries_dispatch.md R190, R198). -/
def step (s : State) : Host.Outcome State Fault Refusal :=
  match s.homing with
  | some _ => .next s.homingIteration
  | none =>
    match s.inbox with
    | [] => .next s
    | p :: later =>
      match decode p.request with
      | .ok i => exec i (s.present p later)
      | .error kind => .next ((s.present p later).protocolError kind)

/-- `s` with the command of a table word presented next, at the time and the switch levels now standing at the
lines. A program is what the host presents; this stands for the host. -/
def State.withFetchWord (s : State) (nbits w : Nat) : State :=
  { s with
    homing := none
    inbox := { request := .cmd (tableText nbits w), inputs := s.inputs } :: s.inbox }

end Sys2Proof.Machine
end

