-- ==== Sys2Proof/Machine/Port.lean ====
section
/-! DEFINITION. The hardware port seen electrically (20_memory.md R63, 60_exceptions.md R238): what a trace event is in
calls of `setOutput` and `delayMicros`, and which pin level means `TRIGGERED`. No rule depends on it. -/

namespace Sys2Proof.Machine

/-- The three output lines. -/
inductive OutputLine where
  /-- The enable line. -/
  | en
  /-- The direction line. -/
  | dir
  /-- The step line. -/
  | step
  deriving DecidableEq, Repr

/-- A call on the port (20_memory.md R63). -/
inductive PortCall where
  /-- `setOutput(line, level)`, the level `true` for high. -/
  | setOutput (line : OutputLine) (high : Bool)
  /-- `delayMicros(n)`, blocking. -/
  | delayMicros (n : Nat)
  deriving DecidableEq, Repr

/-- The pin level of a logical drive level, `polarity` the level that means `ACTIVE` (00_scope.md R7). -/
def DriveLevel.pin (l : DriveLevel) (polarity : Bool) : Bool := if l = .active then polarity else !polarity

/-- The pin level of a direction, `polarity` the level that means `FWD` (00_scope.md R7). -/
def DirLevel.pin (l : DirLevel) (polarity : Bool) : Bool := if l = .fwd then polarity else !polarity

/-- The logical level of a switch pin, `polarity` the level that means `TRIGGERED` (00_scope.md R7). -/
def SwitchLevel.ofPin (pin polarity : Bool) : SwitchLevel := if pin = polarity then .triggered else .clear

/-- The port calls behind one trace event: a write is one call; a pulse is an active and an inactive write with
`T_PULSE_US` between them (42_step_scheduler.md R165); inside `FH` the direction settles for `T_GUARD_US` and each
pulse is followed by `T_HOME_US` (44_homing.md R211). -/
def TraceEntry.portCalls (p : Params) (t : TraceEntry) : List PortCall :=
  match t.event with
  | .enWrite l => [.setOutput .en (l.pin p.polEn)]
  | .stepWrite l => [.setOutput .step (l.pin p.polStep)]
  | .dirWrite l =>
    .setOutput .dir (l.pin p.polDir) :: (if t.op = .fh then [.delayMicros p.tGuardUs] else [])
  | .stepPulse _ =>
    [ .setOutput .step (DriveLevel.active.pin p.polStep), .delayMicros p.tPulseUs,
      .setOutput .step (DriveLevel.inactive.pin p.polStep) ] ++
      (if t.op = .fh then [.delayMicros p.tHomeUs] else [])

end Sys2Proof.Machine
end

