-- ==== Sys2Proof/Safety.lean ====
section
/-! DEFINITION. What a sound state of the controller is, and what the host promises.

`Inv` gathers what the spec says of every state at an operation boundary: the sign convention of the limits, the widths
of the fields, what `homed` and the driver line say of the mode, what a move in progress has fixed. It also says what
holds inside an unfinished `FH`. -/

namespace Sys2Proof.Machine

/-- The limits keep the sign convention and fit 32 bits (10_state.md R29). -/
abbrev State.LimitsSound (s : State) : Prop :=
  s.lowerLimit ≤ 0 ∧ 0 ≤ s.upperLimit ∧ FitsPos s.lowerLimit ∧ FitsPos s.upperLimit

/-- The position fields fit their widths: 32 bits, and 33 for the delta (10_state.md R24 to R26). -/
abbrev State.PositionsFit (s : State) : Prop :=
  FitsPos s.absolutePosition ∧ FitsPos s.targetPosition ∧
    -4294967295 ≤ s.deltaPosition ∧ s.deltaPosition ≤ 4294967295

/-- `homed` and `out.en` say whether the driver is engaged, and `out.step` rests (10_state.md R38, R42,
60_exceptions.md R239). -/
abbrev State.ModeSound (s : State) : Prop :=
  (s.homed = true ↔ s.state = .enabled ∨ s.state = .running) ∧
    (s.outEn = .active ↔ s.state = .enabled ∨ s.state = .running) ∧ s.outStep = .inactive

/-- The plan of the last accepted move: order and widths (10_state.md R50 (a) to (c), 41_ramp_planner.md R152). -/
abbrev State.PlanSound (s : State) : Prop :=
  s.maxVelocity ≤ 9999 ∧ s.rampSteps ≤ 9999 ∧ s.rampSteps ≤ s.rampDownStep ∧ s.rampDownStep ≤ s.totalSteps ∧
    s.totalSteps ≤ 4294967295 ∧ s.velocityIncrement ≤ s.params.kRamp

/-- The velocity is not negative and fits 32 bits (10_state.md R50 (d)). -/
abbrev State.VelocitySound (s : State) : Prop :=
  0 ≤ s.velocity ∧ s.velocity ≤ 9999 + 9999 * (s.params.kRamp : Int)

/-- A move in progress: it has a velocity, the direction line agrees with the step increment (42_step_scheduler.md
R165), fewer steps than planned are taken, the rest leads to the target (10_state.md R25 to R27), and the velocity has
grown by at most `K_RAMP` a step (10_state.md R50 (d)). -/
abbrev State.MoveSound (s : State) : Prop :=
  1 ≤ s.maxVelocity ∧ s.outDir = s.stepIncrement.dir ∧ 0 ≤ s.stepsTaken ∧ s.stepsTaken < s.totalSteps ∧
    s.targetPosition = s.absolutePosition + s.stepIncrement.toInt * (s.totalSteps - s.stepsTaken) ∧
    s.velocity ≤ 9999 + min s.stepsTaken 9999 * (s.params.kRamp : Int)

/-- The invariant of the controller. -/
abbrev Inv (s : State) : Prop :=
  s.params.Wf ∧ s.LimitsSound ∧ s.PositionsFit ∧ s.ModeSound ∧ s.PlanSound ∧ s.VelocitySound ∧
    (s.state = .running → s.MoveSound) ∧
    (s.homing ≠ none → s.state = .enabled ∧ s.params.llsConfigured = true)

/-- The host's law on time for the operations still to come: each `now` is at least the one before, and below `2^63`
(00_scope.md R7). `RESET` takes no `now`. -/
def HostLaw (earliest : Time) : List Presented → Prop
  | [] => True
  | p :: later =>
    match p.request with
    | .reset => HostLaw earliest later
    | .poll => earliest ≤ p.inputs.now ∧ p.inputs.now < 0x8000000000000000#64 ∧ HostLaw p.inputs.now later
    | .cmd _ => earliest ≤ p.inputs.now ∧ p.inputs.now < 0x8000000000000000#64 ∧ HostLaw p.inputs.now later

end Sys2Proof.Machine
end

