-- ==== Sys2Proof/Certificates/Slice0/Obligations.lean ====
section
/-! DEFINITION. The statements for the provers, and the words of the spec they are written in. -/

namespace Sys2Proof.Claims

open Sys2Proof.Machine

/-! ## Vocabulary: the output trace -/

/-- The trace entry an operation makes in a state: tagged with the operation and its `now` (00_scope.md R11). -/
abbrev entry (i : Instr) (s : State) (e : OutputEvent) : TraceEntry :=
  { op := i, now := some s.inputs.now, event := e }

/-- The event is a step pulse. -/
abbrev IsPulse (e : OutputEvent) : Prop := e = .stepPulse .plus ∨ e = .stepPulse .minus

/-- The entry is a write of `out.dir` by the arming of a move at time `a`. -/
def ArmingDirWrite (e : TraceEntry) (a : Time) : Prop :=
  e.op ≠ .fh ∧ e.op ≠ .reset ∧ e.now = some a ∧ (e.event = .dirWrite .fwd ∨ e.event = .dirWrite .rev)

/-- The entry is a step pulse of a poll at time `b`. -/
def PollPulse (e : TraceEntry) (b : Time) : Prop :=
  e.op = .poll ∧ e.now = some b ∧ IsPulse e.event

/-! ## Vocabulary: the plan of a move (41_ramp_planner.md R142, R143) -/

/-- `rampSteps0`: the steps to reach `vmax` by `inc`, none without a ramp (R142). -/
def rampLength (inc vmax : Nat) : Nat := if inc = 0 then 0 else vmax / inc

/-- The start velocity: `vmax` when the ramp has no step, else standstill (R142). -/
def startVelocity (inc vmax : Nat) : Int := if rampLength inc vmax = 0 then vmax else 0

/-- `rampSteps` after the profile test (R143). -/
def plannedRamp (total inc vmax : Nat) : Nat :=
  if total > 2 * rampLength inc vmax then rampLength inc vmax else total / 2

/-- `rampDownStep` after the profile test (R143). -/
def plannedDown (total inc vmax : Nat) : Nat :=
  if total > 2 * rampLength inc vmax then total - rampLength inc vmax else total / 2

/-- The state after parts 1 to 3 of `arm(target, vmax)` (R141). -/
def planned (s : State) (target : Int) (vmax : Nat) : State :=
  let total := (target - s.absolutePosition).natAbs
  { s with
    targetPosition := target
    maxVelocity := vmax
    totalSteps := total
    velocity := startVelocity s.velocityIncrement vmax
    rampSteps := plannedRamp total s.velocityIncrement vmax
    rampDownStep := plannedDown total s.velocityIncrement vmax }

/-- The state after the whole of `arm(target, vmax)` by operation `i`: a move to where the motor is ends with the plan
written (R144), any other is launched (R145). -/
def armed (i : Instr) (s : State) (target : Int) (vmax : Nat) : State :=
  let inc : StepIncrement := if target - s.absolutePosition > 0 then .plus else .minus
  let dir : DirLevel := if target - s.absolutePosition > 0 then .fwd else .rev
  if target = s.absolutePosition then { planned s target vmax with result := .replied .empty }
  else
    { planned s target vmax with
      stepIncrement := inc
      outDir := dir
      deltaPosition := 0
      nextStepDeadline := s.inputs.now.toNat + s.params.tGuardUs
      state := .running
      result := .replied .empty
      trace := s.trace ++ [entry i s (.dirWrite dir)] }

/-- The operation is a rotate command that a state accepts (41_ramp_planner.md R140, R146 to R150). -/
def Accepted (s : State) : Instr → Prop
  | .ra _ _ => s.state = .enabled
  | .rr _ count => s.state = .enabled ∧ FitsPos (s.absolutePosition + count)
  | .rh | .rl | .ru => s.state = .enabled ∧ s.maxVelocity ≠ 0
  | .en | .di | .es | .fh | .sh | .sl _ | .su _ | .sr _ | .ga | .gr | .gl | .gu | .gt | .gv | .poll | .reset => False

/-- Where a rotate command leads (30_encoding.md R98); the position for every other operation. -/
def rotateTarget (s : State) : Instr → Int
  | .ra _ target => target
  | .rr _ count => s.absolutePosition + count
  | .rh => 0
  | .rl => s.lowerLimit
  | .ru => s.upperLimit
  | .en | .di | .es | .fh | .sh | .sl _ | .su _ | .sr _ | .ga | .gr | .gl | .gu | .gt | .gv | .poll | .reset =>
    s.absolutePosition

/-- `arm*` of 10_state.md R47: an accepted rotate command whose move is not a no-op. -/
def Launched (s : State) (i : Instr) : Prop := Accepted s i ∧ rotateTarget s i ≠ s.absolutePosition

/-! ## Vocabulary: polls -/

/-- The step a due poll would take fits both limits (42_step_scheduler.md R163). -/
abbrev StepInRange (s : State) : Prop :=
  s.lowerLimit ≤ s.absolutePosition + s.stepIncrement.toInt ∧ s.absolutePosition + s.stepIncrement.toInt ≤ s.upperLimit

/-- A state with one more step pulsed and committed by a poll (42_step_scheduler.md R165, R166). -/
def stepped (s : State) : State :=
  { s with
    outStep := .inactive
    absolutePosition := s.absolutePosition + s.stepIncrement.toInt
    deltaPosition := s.deltaPosition + s.stepIncrement.toInt
    trace := s.trace ++ [entry .poll s (.stepPulse s.stepIncrement)] }

/-- The velocity after the update and the floor, `n` the steps taken with this poll's (42_step_scheduler.md R169,
R170). -/
def nextVelocity (s : State) : Int :=
  let n := (s.deltaPosition + s.stepIncrement.toInt) * s.stepIncrement.toInt
  let v := if n ≤ s.rampSteps then s.velocity + s.velocityIncrement
    else if n > s.rampDownStep then s.velocity - s.velocityIncrement
    else (s.maxVelocity : Int)
  if v < 1 then max (s.velocityIncrement : Int) 1 else v

/-- The whole poll, line by line (42_step_scheduler.md R160). -/
def pollResult (s : State) : State :=
  let cand := s.absolutePosition + s.stepIncrement.toInt
  if ¬ (s.homed = true ∧ s.state = .running ∧ s.inputs.now.toNat ≥ s.nextStepDeadline) then
    { s with result := .polled .idle s.absolutePosition }
  else if cand < s.lowerLimit then { s with state := .enabled, result := .polled .rangeLower s.absolutePosition }
  else if cand > s.upperLimit then { s with state := .enabled, result := .polled .rangeUpper s.absolutePosition }
  else if s.params.llsConfigured = true ∧ s.inputs.lls.head = .triggered then
    { stepped s with state := .enabled, result := .polled .limitLower cand }
  else if s.params.ulsConfigured = true ∧ s.inputs.uls = .triggered then
    { stepped s with state := .enabled, result := .polled .limitUpper cand }
  else if cand = s.targetPosition then { stepped s with state := .enabled, result := .polled .complete cand }
  else
    { stepped s with
      velocity := nextVelocity s
      nextStepDeadline := s.nextStepDeadline + 1000000 / (nextVelocity s).toNat
      result := .polled .stepped cand }

/-- The result of a poll that took a step. -/
abbrev StepResult (r : OpResult) : Prop :=
  ∃ pos, r = .polled .stepped pos ∨ r = .polled .complete pos ∨ r = .polled .limitLower pos ∨ r = .polled .limitUpper pos

/-- The result of a poll that ended the move: a completion or a fault. -/
abbrev EndResult (r : OpResult) : Prop :=
  ∃ pos, r = .polled .complete pos ∨ r = .polled .rangeLower pos ∨ r = .polled .rangeUpper pos ∨
    r = .polled .limitLower pos ∨ r = .polled .limitUpper pos

/-- One poll with the given inputs. -/
def pollAt (s : State) (inp : Inputs) : State :=
  match exec .poll { s with inputs := inp } with
  | .next t => t
  | .fault _ => s
  | .refused _ => s

/-- Each of the polls finds its deadline reached and no configured switch triggered. -/
def DueAndClear (s : State) : List Inputs → Prop
  | [] => True
  | inp :: later =>
    s.nextStepDeadline ≤ inp.now.toNat ∧
      ¬ (s.params.llsConfigured = true ∧ inp.lls.head = .triggered) ∧
      ¬ (s.params.ulsConfigured = true ∧ inp.uls = .triggered) ∧ DueAndClear (pollAt s inp) later

/-- Each of the polls is idle. -/
def AllIdle (s : State) : List Inputs → Prop
  | [] => True
  | inp :: later => (∃ pos, (pollAt s inp).result = .polled .idle pos) ∧ AllIdle (pollAt s inp) later

/-! ## Vocabulary: the velocity profile (42_step_scheduler.md R176) -/

/-- The velocity after step `n` of a move of `total` steps with increment `c` and cruise velocity `m`. -/
def profile (c m total : Nat) (n : Int) : Int :=
  let r := rampLength c m
  if r = 0 then m
  else if total > 2 * r then
    if n ≤ r then n * c
    else if n ≤ (total : Int) - r then m
    else m - (n - (total - r)) * c
  else
    let h : Int := (total / 2 : Nat)
    if n ≤ h then n * c
    else if (2 * h - n) * c = 0 then c
    else (2 * h - n) * c

/-- A move in progress that keeps the profile it was armed with: the plan is that of the increment and the cruise
velocity in force, fewer steps than planned are taken and the rest leads to the target, and the velocity is the
profile's. -/
def OnProfile (s : State) : Prop :=
  s.state = .running ∧ 1 ≤ s.maxVelocity ∧
    s.rampSteps = plannedRamp s.totalSteps s.velocityIncrement s.maxVelocity ∧
    s.rampDownStep = plannedDown s.totalSteps s.velocityIncrement s.maxVelocity ∧
    0 ≤ s.stepsTaken ∧ s.stepsTaken < s.totalSteps ∧
    s.targetPosition = s.absolutePosition + s.stepIncrement.toInt * (s.totalSteps - s.stepsTaken) ∧
    s.velocity = if s.stepsTaken = 0 then startVelocity s.velocityIncrement s.maxVelocity
      else profile s.velocityIncrement s.maxVelocity s.totalSteps s.stepsTaken

/-! ## Vocabulary: homing and time -/

/-- The level of sample `k` of a stream. -/
def sampleAt (t : SampleStream) (k : Nat) : SwitchLevel := t.script.getD k t.rest

/-- What the guard interval keeps apart (20_memory.md R73): in the trace each direction write of an arming lies the
guard interval before every later step pulse of a poll; a move in progress has its deadline that far from every such
write; and time has not run backwards. -/
def GuardKept (s : State) : Prop :=
  s.trace.Pairwise (fun x y => ∀ a b, ArmingDirWrite x a → PollPulse y b → a.toNat + s.params.tGuardUs ≤ b.toNat) ∧
    (s.state = .running →
      ∀ e ∈ s.trace, ∀ a, ArmingDirWrite e a → a.toNat + s.params.tGuardUs ≤ s.nextStepDeadline) ∧
    (∀ e ∈ s.trace, ∀ a, e.now = some a → a ≤ s.inputs.now) ∧ HostLaw s.inputs.now s.inbox

/-! ## Vocabulary: the writer table (10_state.md R47), the transition table (60_exceptions.md R236) -/

/-- A field no writer wrote has its old value. -/
abbrev Kept {α : Type} (written : Prop) (old new : α) : Prop := ¬ written → new = old

/-- The state a rotate command leads to: `RUNNING` when it launches a move. -/
def RotateMode (s t : State) (i : Instr) : Prop :=
  (Launched s i → t.state = .running) ∧ (¬ Launched s i → t.state = s.state)

/-- The row of the transition table for an operation. -/
def ModeRow (s t : State) : Instr → Prop
  | .reset => t.state = .disabled
  | .en => t.state = .enabled
  | .di => t.state = .disabled
  | .es => t.state = .estopped
  | .ra vel target => RotateMode s t (.ra vel target)
  | .rr vel count => RotateMode s t (.rr vel count)
  | .rh => RotateMode s t .rh
  | .rl => RotateMode s t .rl
  | .ru => RotateMode s t .ru
  | .poll =>
    (EndResult t.result ∧ s.state = .running ∧ t.state = .enabled) ∨
      ((∃ pos, t.result = .polled .idle pos ∨ t.result = .polled .stepped pos) ∧ t.state = s.state)
  | .sh | .fh | .sl _ | .su _ | .sr _ | .ga | .gr | .gl | .gu | .gt | .gv => t.state = s.state

end Sys2Proof.Claims

open Sys2Proof Sys2Proof.Machine Sys2Proof.Claims

/-! ## Motion State commands -/

/-- 40_motion_state.md R120. -/
def Obligations.EnableDrivesAndSetsHome : Prop :=
  ∀ s : State, exec .en s = .next { s with
    outEn := .active
    state := .enabled
    absolutePosition := 0
    deltaPosition := 0
    homed := true
    result := .replied .empty
    trace := s.trace ++ [entry .en s (.enWrite .active)] }

/-- 40_motion_state.md R121. -/
def Obligations.DisableDropsTheHomeReference : Prop :=
  ∀ s : State, exec .di s = .next { s with
    outEn := .inactive
    state := .disabled
    homed := false
    result := .replied .empty
    trace := s.trace ++ [entry .di s (.enWrite .inactive)] }

/-- 40_motion_state.md R122. -/
def Obligations.SetHomeActsOnlyWhenEnabled : Prop :=
  ∀ s : State,
    (s.state = .enabled → exec .sh s = .next { s with
      absolutePosition := 0
      deltaPosition := 0
      homed := true
      result := .replied .empty }) ∧
    (s.state ≠ .enabled → exec .sh s = .next { s with result := .replied .empty })

/-- 40_motion_state.md R123 and R124. -/
def Obligations.SettersTakeOnlyConventionalLimits : Prop :=
  ∀ (s : State) (v : Int), FitsPos v →
    (v ≤ 0 ∧ v ≤ s.upperLimit → exec (.sl v) s = .next { s with lowerLimit := v, result := .replied .empty }) ∧
    (¬ (v ≤ 0 ∧ v ≤ s.upperLimit) → exec (.sl v) s = .next { s with result := .replied .empty }) ∧
    (v ≥ 0 ∧ v ≥ s.lowerLimit → exec (.su v) s = .next { s with upperLimit := v, result := .replied .empty }) ∧
    (¬ (v ≥ 0 ∧ v ≥ s.lowerLimit) → exec (.su v) s = .next { s with result := .replied .empty })

/-- 40_motion_state.md R125, with the table of R126 written out. -/
def Obligations.SetRampFactorLoadsTheTable : Prop :=
  ∀ (s : State) (r : Nat),
    (r ≤ 9 → exec (.sr r) s = .next { s with
      velocityIncrement := if r = 0 then 0 else s.params.kRamp / r
      result := .replied .empty }) ∧
    (9 < r → exec (.sr r) s = .next { s with result := .replied .empty })

/-- 40_motion_state.md R126: `VINC[0] = 0`, `VINC[r] = K_RAMP div r`, and what a model may assume of the table. -/
def Obligations.RampTableStrictlyDecreases : Prop :=
  ∀ p : Params, p.Wf →
    p.vinc 0 = 0 ∧ (∀ r, 1 ≤ r → r ≤ 9 → p.vinc r = p.kRamp / r ∧ 0 < p.vinc r) ∧
      (∀ r r', 1 ≤ r → r < r' → r' ≤ 9 → p.vinc r' < p.vinc r)

/-- 40_motion_state.md R127 and its vector V-M7. That the trace records the write of `out.step` is the model's
(DEDUCED from V-M7, log entry 9): 00_scope.md R11 lists the writes of `out.en` and `out.dir` and the pulses. -/
def Obligations.EmergencyStopLocksOut : Prop :=
  ∀ s : State, exec .es s = .next { s with
    outStep := .inactive
    outEn := .inactive
    state := .estopped
    homed := false
    targetPosition := s.absolutePosition
    result := .replied .empty
    trace := s.trace ++ [entry .es s (.stepWrite .inactive), entry .es s (.enWrite .inactive)] }

/-- 60_exceptions.md R228: from `ESTOPPED` a step that runs neither `EN`, `DI` nor `RESET` stays there, moves no count,
and makes no event but the two line writes of a repeated `ES`. -/
def Obligations.LockoutHoldsUntilEnable : Prop :=
  ∀ s t : State, s.state = .estopped → s.homing = none →
    (∀ p ∈ s.inbox.head?, decode p.request ≠ .ok .en ∧ decode p.request ≠ .ok .di ∧ decode p.request ≠ .ok .reset) →
    step s = .next t →
      t.state = .estopped ∧ t.absolutePosition = s.absolutePosition ∧ t.deltaPosition = s.deltaPosition ∧
        t.outDir = s.outDir ∧ t.homing = none ∧ (s.homed = false → t.homed = false) ∧
        ∃ new, t.trace = s.trace ++ new ∧
          ∀ e ∈ new, e.op = .es ∧ (e.event = .stepWrite .inactive ∨ e.event = .enWrite .inactive)

/-! ## Rotate commands -/

/-- 41_ramp_planner.md R141, R146, R147: `RA` and `RR` from every state. -/
def Obligations.RotateWithVelocityArms : Prop :=
  ∀ (s : State) (vel : Nat) (v : Int), 1 ≤ vel → vel ≤ 9999 → FitsPos v →
    (s.state = .enabled → exec (.ra vel v) s = .next (armed (.ra vel v) s v vel)) ∧
    (s.state ≠ .enabled → exec (.ra vel v) s = .next { s with result := .replied .empty }) ∧
    (s.state = .enabled → FitsPos (s.absolutePosition + v) →
      exec (.rr vel v) s = .next (armed (.rr vel v) s (s.absolutePosition + v) vel)) ∧
    (s.state = .enabled → ¬ FitsPos (s.absolutePosition + v) →
      exec (.rr vel v) s = .next { s with result := .replied (.error .range) }) ∧
    (s.state ≠ .enabled → exec (.rr vel v) s = .next { s with result := .replied .empty })

/-- 41_ramp_planner.md R141, R148 to R150: `RH`, `RL`, `RU` from every state. -/
def Obligations.RotateAtHeldVelocityArms : Prop :=
  ∀ s : State,
    (s.state = .enabled → s.maxVelocity ≠ 0 →
      exec .rh s = .next (armed .rh s 0 s.maxVelocity) ∧
      exec .rl s = .next (armed .rl s s.lowerLimit s.maxVelocity) ∧
      exec .ru s = .next (armed .ru s s.upperLimit s.maxVelocity)) ∧
    (¬ (s.state = .enabled ∧ s.maxVelocity ≠ 0) →
      exec .rh s = .next { s with result := .replied .empty } ∧
      exec .rl s = .next { s with result := .replied .empty } ∧
      exec .ru s = .next { s with result := .replied .empty })

/-- 41_ramp_planner.md R152: what every plan satisfies, for each accepted rotate command. -/
def Obligations.EveryPlanIsATrapezoidOrATriangle : Prop :=
  ∀ (i : Instr) (s t : State), Accepted s i → exec i s = .next t →
    let r0 := rampLength t.velocityIncrement t.maxVelocity
    t.rampSteps ≤ t.rampDownStep ∧ t.rampDownStep ≤ t.totalSteps ∧
      t.rampSteps * t.velocityIncrement ≤ t.maxVelocity ∧
      (t.totalSteps > 2 * r0 →
        t.rampSteps = r0 ∧ t.rampDownStep = t.rampSteps + (t.totalSteps - 2 * r0) ∧ 1 ≤ t.totalSteps - 2 * r0) ∧
      (t.totalSteps ≤ 2 * r0 →
        t.rampSteps = t.totalSteps / 2 ∧ t.rampDownStep = t.totalSteps / 2 ∧ t.totalSteps / 2 ≤ r0)

/-- 41_ramp_planner.md R153: a larger ramp factor never shortens the ramp of a long move, and factor 0 has none. -/
def Obligations.RampLengthGrowsWithTheFactor : Prop :=
  ∀ (s a b a' b' : State) (r r' vel : Nat) (v : Int), s.state = .enabled → s.params.Wf →
    1 ≤ r → r ≤ r' → r' ≤ 9 → 1 ≤ vel → vel ≤ 9999 →
    (v - s.absolutePosition).natAbs > 2 * (vel / (s.params.kRamp / r')) →
    exec (.sr r) s = .next a → exec (.ra vel v) a = .next b →
    exec (.sr r') s = .next a' → exec (.ra vel v) a' = .next b' →
      b.rampSteps = vel / (s.params.kRamp / r) ∧ b'.rampSteps = vel / (s.params.kRamp / r') ∧
        b.rampSteps ≤ b'.rampSteps ∧
        ∀ z z', exec (.sr 0) s = .next z → exec (.ra vel v) z = .next z' → z'.rampSteps = 0

/-! ## Polls -/

/-- 42_step_scheduler.md R160, the whole poll. -/
def Obligations.PollRunsItsElevenLines : Prop :=
  ∀ s : State, exec .poll s = .next (pollResult s)

/-- 42_step_scheduler.md R161. -/
def Obligations.PollIsIdleUnlessDue : Prop :=
  ∀ s : State, ¬ (s.homed = true ∧ s.state = .running ∧ s.inputs.now.toNat ≥ s.nextStepDeadline) →
    exec .poll s = .next { s with result := .polled .idle s.absolutePosition }

/-- 42_step_scheduler.md R163, 60_exceptions.md R231: a candidate beyond a limit is refused, one equal to it passes. -/
def Obligations.RangeFaultRefusesTheStep : Prop :=
  ∀ s : State, s.homed = true → s.state = .running → s.inputs.now.toNat ≥ s.nextStepDeadline →
    s.lowerLimit ≤ s.upperLimit →
    (s.absolutePosition + s.stepIncrement.toInt < s.lowerLimit →
      exec .poll s = .next { s with state := .enabled, result := .polled .rangeLower s.absolutePosition }) ∧
    (s.upperLimit < s.absolutePosition + s.stepIncrement.toInt →
      exec .poll s = .next { s with state := .enabled, result := .polled .rangeUpper s.absolutePosition }) ∧
    (StepInRange s → ∀ t pos, exec .poll s = .next t →
      t.result ≠ .polled .rangeLower pos ∧ t.result ≠ .polled .rangeUpper pos)

/-- 42_step_scheduler.md R167, R168: after the commit the switches come first, then completion. -/
def Obligations.SwitchFaultHidesCompletion : Prop :=
  ∀ s : State, s.homed = true → s.state = .running → s.inputs.now.toNat ≥ s.nextStepDeadline → StepInRange s →
    let cand := s.absolutePosition + s.stepIncrement.toInt
    let lower := s.params.llsConfigured = true ∧ s.inputs.lls.head = .triggered
    let upper := s.params.ulsConfigured = true ∧ s.inputs.uls = .triggered
    (lower → exec .poll s = .next { stepped s with state := .enabled, result := .polled .limitLower cand }) ∧
    (¬ lower → upper → exec .poll s = .next { stepped s with state := .enabled, result := .polled .limitUpper cand }) ∧
    (¬ lower → ¬ upper → cand = s.targetPosition →
      exec .poll s = .next { stepped s with state := .enabled, result := .polled .complete cand })

/-- 42_step_scheduler.md R169 to R172: a step that goes on. -/
def Obligations.ContinuingStepBuildsOnThePreviousDeadline : Prop :=
  ∀ s : State, s.homed = true → s.state = .running → s.inputs.now.toNat ≥ s.nextStepDeadline → StepInRange s →
    ¬ (s.params.llsConfigured = true ∧ s.inputs.lls.head = .triggered) →
    ¬ (s.params.ulsConfigured = true ∧ s.inputs.uls = .triggered) →
    s.absolutePosition + s.stepIncrement.toInt ≠ s.targetPosition →
      1 ≤ nextVelocity s ∧
      exec .poll s = .next { stepped s with
        velocity := nextVelocity s
        nextStepDeadline := s.nextStepDeadline + 1000000 / (nextVelocity s).toNat
        result := .polled .stepped (s.absolutePosition + s.stepIncrement.toInt) }

/-- 30_encoding.md R101: the codes, the bits of a fault, and that 3 is never produced. -/
def Obligations.SignalCodesNameTheFaults : Prop :=
  ∀ g : Signal,
    g.code < 8 ∧ g.code ≠ 3 ∧
    ((g.code.testBit 2 = true) ↔ g ∈ [Signal.rangeLower, .rangeUpper, .limitLower, .limitUpper]) ∧
    (g.code.testBit 2 = true →
      ((g.code.testBit 1 = true) ↔ g ∈ [Signal.limitLower, .limitUpper]) ∧
      ((g.code.testBit 0 = true) ↔ g ∈ [Signal.rangeUpper, .limitUpper])) ∧
    [Signal.idle.code, Signal.stepped.code, Signal.complete.code] = [0, 1, 2]

/-- 42_step_scheduler.md R166, R175, 60_exceptions.md R232: both counts move together, by the one pulse of the poll, or
neither moves; and the position returned is the one left (30_encoding.md R102). -/
def Obligations.PollMovesBothCountsWithItsPulse : Prop :=
  ∀ s t : State, exec .poll s = .next t →
    (∃ sig, t.result = .polled sig t.absolutePosition) ∧
    ((StepResult t.result ∧ t.absolutePosition = s.absolutePosition + s.stepIncrement.toInt ∧
        t.deltaPosition = s.deltaPosition + s.stepIncrement.toInt ∧
        t.trace = s.trace ++ [entry .poll s (.stepPulse s.stepIncrement)]) ∨
      (¬ StepResult t.result ∧ t.absolutePosition = s.absolutePosition ∧ t.deltaPosition = s.deltaPosition ∧
        t.trace = s.trace))

/-- 10_state.md R36 (a): a position a poll commits lies within the limits in force. -/
def Obligations.CommittedPositionsAreInRange : Prop :=
  ∀ s t : State, exec .poll s = .next t → t.absolutePosition ≠ s.absolutePosition →
    s.lowerLimit ≤ t.absolutePosition ∧ t.absolutePosition ≤ s.upperLimit

/-- 42_step_scheduler.md R174: how late a due poll comes changes nothing it leaves but the time at the lines and the tag
of its pulse. The traces agree entry by entry in operation and event, and what the two polls add differs in its tag
alone. -/
def Obligations.LatenessMovesNoDeadline : Prop :=
  ∀ (s t t' : State) (n n' : Time), s.nextStepDeadline ≤ n.toNat → s.nextStepDeadline ≤ n'.toNat →
    exec .poll { s with inputs := { s.inputs with now := n } } = .next t →
    exec .poll { s with inputs := { s.inputs with now := n' } } = .next t' →
      ({ t with inputs := s.inputs, trace := s.trace } : State) = { t' with inputs := s.inputs, trace := s.trace } ∧
        t.trace.map (fun e => (e.op, e.event)) = t'.trace.map (fun e => (e.op, e.event)) ∧
        t.inputs.lls = t'.inputs.lls ∧ t.inputs.uls = t'.inputs.uls ∧
        (∀ new, t.trace = s.trace ++ new → t'.trace = s.trace ++ new.map fun e => { e with now := some n' })

/-- 42_step_scheduler.md R173: at a constant velocity two successive deadlines lie one interval apart, however many
idle polls come between. -/
def Obligations.ConstantVelocityIsDriftFree : Prop :=
  ∀ (s : State) (inp inp' : Inputs) (idle : List Inputs) (pos pos' : Int),
    let a := pollAt s inp
    let b := idle.foldl pollAt a
    let c := pollAt b inp'
    a.result = .polled .stepped pos → AllIdle a idle → c.result = .polled .stepped pos' →
    c.velocity = a.velocity →
      c.nextStepDeadline = a.nextStepDeadline + 1000000 / a.velocity.toNat

/-- 42_step_scheduler.md R176: arming puts a move on its profile, and every operation but `SR` keeps it there while the
move goes on. -/
def Obligations.MovesKeepTheirVelocityProfile : Prop :=
  (∀ (i : Instr) (s t : State), i.WellFormed → s.state = .enabled → exec i s = .next t → t.state = .running →
    OnProfile t) ∧
  (∀ (i : Instr) (s t : State), OnProfile s → (∀ r, i ≠ .sr r) → exec i s = .next t → t.state = .running →
    OnProfile t)

/-- 41_ramp_planner.md R149, 42_step_scheduler.md R168: a move whose way lies within the limits, polled as often as it
has steps left, each time when due and with no switch triggered, ends at its target with a completion. -/
def Obligations.UninterruptedMoveCompletes : Prop :=
  ∀ (s : State) (polls : List Inputs), Inv s → s.state = .running →
    s.lowerLimit ≤ s.absolutePosition → s.absolutePosition ≤ s.upperLimit →
    s.lowerLimit ≤ s.targetPosition → s.targetPosition ≤ s.upperLimit →
    polls.length = (s.targetPosition - s.absolutePosition).natAbs → DueAndClear s polls →
      let t := polls.foldl pollAt s
      t.absolutePosition = s.targetPosition ∧ t.state = .enabled ∧ t.result = .polled .complete s.targetPosition

/-- 41_ramp_planner.md R151, 42_step_scheduler.md R163: a move to a target beyond a limit stops exactly at the limit,
with the range fault of that side. -/
def Obligations.OvershootingMoveStopsAtTheLimit : Prop :=
  ∀ (s : State) (polls : List Inputs), Inv s → s.state = .running →
    s.lowerLimit ≤ s.absolutePosition → s.absolutePosition ≤ s.upperLimit → DueAndClear s polls →
      let t := polls.foldl pollAt s
      (s.targetPosition < s.lowerLimit → polls.length = (s.absolutePosition - s.lowerLimit).natAbs + 1 →
        t.absolutePosition = s.lowerLimit ∧ t.state = .enabled ∧ t.result = .polled .rangeLower s.lowerLimit) ∧
      (s.upperLimit < s.targetPosition → polls.length = (s.upperLimit - s.absolutePosition).natAbs + 1 →
        t.absolutePosition = s.upperLimit ∧ t.state = .enabled ∧ t.result = .polled .rangeUpper s.upperLimit)

/-- 70_reset_and_hazards.md R258 as 42_step_scheduler.md R163 gives it: two or more steps outside the limits, every due
poll faults, whatever the direction. -/
def Obligations.LimitInsideThePositionTrapsTheMotor : Prop :=
  ∀ s : State, s.homed = true → s.state = .running → s.inputs.now.toNat ≥ s.nextStepDeadline →
    s.lowerLimit ≤ s.upperLimit →
    (s.absolutePosition < s.lowerLimit - 1 →
      exec .poll s = .next { s with state := .enabled, result := .polled .rangeLower s.absolutePosition }) ∧
    (s.upperLimit + 1 < s.absolutePosition →
      exec .poll s = .next { s with state := .enabled, result := .polled .rangeUpper s.absolutePosition })

/-- 20_memory.md R73, 70_reset_and_hazards.md R266: under the host's law on time every step keeps each direction write
of an arming the guard interval before every later step pulse of a poll. -/
def Obligations.GuardIntervalIsKept : Prop :=
  (∀ s : State, s.trace = [] → HostLaw s.inputs.now s.inbox → GuardKept s) ∧
  (∀ s t : State, GuardKept s → step s = .next t → GuardKept t)

/-! ## Queries -/

/-- 43_queries_dispatch.md R191 to R194, R196. -/
def Obligations.QueriesReplyAndChangeNothing : Prop :=
  ∀ s : State,
    exec .ga s = .next { s with result := .replied (.number s.absolutePosition) } ∧
    exec .gr s = .next { s with result := .replied (.number s.deltaPosition) } ∧
    exec .gl s = .next { s with result := .replied (.number s.lowerLimit) } ∧
    exec .gu s = .next { s with result := .replied (.number s.upperLimit) } ∧
    exec .gv s = .next { s with result := .replied .version }

/-- 43_queries_dispatch.md R195, R197, 20_memory.md R69: in every state `GT` replies the estimate that the parameter
`REM_TIME` of the controller gives of its state, whichever estimate that is, and changes nothing; so the reply hangs
neither on the time and the switches at the lines nor on the model's own fields. Nothing here depends on the values of
an estimate, as R197 asks. -/
def Obligations.RemainingTimeFollowsTheEstimate : Prop :=
  (∀ s : State, exec .gt s = .next { s with
    result := .replied (.number (RemTime.estimate s.params.remTime
      { running := decide (s.state = .running)
        absolutePosition := s.absolutePosition
        deltaPosition := s.deltaPosition
        targetPosition := s.targetPosition
        totalSteps := s.totalSteps
        lowerLimit := s.lowerLimit
        upperLimit := s.upperLimit
        velocity := s.velocity
        velocityIncrement := s.velocityIncrement
        maxVelocity := s.maxVelocity
        rampSteps := s.rampSteps
        rampDownStep := s.rampDownStep
        nextStepDeadline := s.nextStepDeadline })) }) ∧
  (∀ (s t u : State) (inp : Inputs) (inbox : List Presented) (trace : List TraceEntry) (result : OpResult),
    exec .gt s = .next t →
    exec .gt { s with inputs := inp, inbox := inbox, trace := trace, result := result } = .next u →
      u.result = t.result)

/-- 30_encoding.md R106: the rendering is the ordinary decimal one. -/
def Obligations.NumbersRenderInMinimalDecimal : Prop :=
  (∀ n : Nat, renderInt n = if n = 0 then [0x30#8] else (Nat.digits 10 n).reverse.map fun d => BitVec.ofNat 8 (0x30 + d)) ∧
    (∀ n : Int, n < 0 → renderInt n = 0x2D#8 :: renderInt (-n))

/-- 30_encoding.md R105, R107: an error reply is never the empty string, the reply of a good command is. -/
def Obligations.ErrorRepliesAreNeverEmpty : Prop :=
  Reply.text .empty = [] ∧ ∀ kind, Reply.text (.error kind) ≠ []

/-! ## Homing -/

/-- 43_queries_dispatch.md R200: what a well-formed command does that its operation declines. -/
def Obligations.DeclinedCommandsReplyEmptyAndChangeNothing : Prop :=
  ∀ (s : State) (i : Instr),
    ((∃ v : Int, i = .sl v ∧ ¬ (v ≤ 0 ∧ v ≤ s.upperLimit)) ∨ (∃ v : Int, i = .su v ∧ ¬ (0 ≤ v ∧ s.lowerLimit ≤ v)) ∨
      (i = .sh ∧ s.state ≠ .enabled) ∨
      ((∃ vel v, i = .ra vel v ∨ i = .rr vel v) ∧ s.state ≠ .enabled) ∨
      ((i = .rh ∨ i = .rl ∨ i = .ru) ∧ (s.state ≠ .enabled ∨ s.maxVelocity = 0)) ∨
      (i = .fh ∧ (s.state ≠ .enabled ∨ s.params.llsConfigured = false))) →
    exec i s = .next { s with result := .replied .empty }

/-- 44_homing.md R211 to R213: `FH` on a stream of `a` clear samples, a triggered one, `b` more triggered ones and a
clear one; the clear one may be the last listed or the level that follows the list. -/
def Obligations.FindHomeSeeksAndBacksOff : Prop :=
  ∀ (s : State) (a b : Nat) (later : List SwitchLevel), s.state = .enabled → s.params.llsConfigured = true →
    (s.inputs.lls.script =
        List.replicate a .clear ++ .triggered :: (List.replicate b .triggered ++ .clear :: later) ∨
      (s.inputs.lls.script = List.replicate a .clear ++ .triggered :: List.replicate b .triggered ∧
        s.inputs.lls.rest = .clear ∧ later = [])) →
    exec .fh s = .next { s with
      absolutePosition := 0
      deltaPosition := 0
      homed := true
      outDir := .fwd
      outStep := if a = 0 ∧ b = 0 then s.outStep else .inactive
      inputs := { s.inputs with lls := { s.inputs.lls with script := later } }
      homing := none
      result := .replied .empty
      trace := s.trace ++ entry .fh s (.dirWrite .rev) :: List.replicate a (entry .fh s (.stepPulse .minus)) ++
        entry .fh s (.dirWrite .fwd) :: List.replicate b (entry .fh s (.stepPulse .plus)) }

/-- 44_homing.md R213: `FH` returns exactly when a triggered sample is followed later by a clear one. -/
def Obligations.FindHomeReturnsIffTheSwitchReleases : Prop :=
  ∀ s : State, s.state = .enabled → s.params.llsConfigured = true →
    ∃ t, exec .fh s = .next t ∧
      (t.homing = none ↔ ∃ i j, i < j ∧ sampleAt s.inputs.lls i = .triggered ∧ sampleAt s.inputs.lls j = .clear)

/-- 44_homing.md R213, 70_reset_and_hazards.md R263: an `FH` that never returns pulses for ever and lets no other
operation run. -/
def Obligations.UnfinishedHomingBlocksEverything : Prop :=
  ∀ (s : State) (k : Nat), s.inputs.lls.script = [] →
    (s.homing = some .seek ∧ s.inputs.lls.rest = .clear →
      ∃ t, Host.Core.run core k s = .next t ∧ t.homing = some .seek ∧ t.inbox = s.inbox ∧ t.state = s.state ∧
        t.result = s.result ∧ t.trace = s.trace ++ List.replicate k (entry .fh s (.stepPulse .minus))) ∧
    (s.homing = some .backOff ∧ s.inputs.lls.rest = .triggered →
      ∃ t, Host.Core.run core k s = .next t ∧ t.homing = some .backOff ∧ t.inbox = s.inbox ∧ t.state = s.state ∧
        t.result = s.result ∧ t.trace = s.trace ++ List.replicate k (entry .fh s (.stepPulse .plus)))

/-! ## Reset -/

/-- 70_reset_and_hazards.md R250, R251, 10_state.md R49: legal in every state. The events of the line writes are left
open here: their order is the model's choice (log entry 8). -/
def Obligations.ResetOperationWritesEveryField : Prop :=
  ∀ s : State, ∃ written, exec .reset s = .next { s with
    state := .disabled
    homed := false
    absolutePosition := 0
    deltaPosition := 0
    targetPosition := 0
    totalSteps := 0
    stepIncrement := .plus
    lowerLimit := -2000000000
    upperLimit := 2000000000
    velocity := 0
    velocityIncrement := s.params.vinc s.params.rampReset
    maxVelocity := 0
    rampSteps := 0
    rampDownStep := 0
    nextStepDeadline := 0
    outEn := .inactive
    outDir := .fwd
    outStep := .inactive
    homing := none
    result := .nothing
    trace := s.trace ++ written }

/-- 10_state.md R49, 00_scope.md R7: the state after reset, for every value of the open parameters in their bounds. -/
def Obligations.ResetStateHoldsTheTable : Prop :=
  let s := State.reset
  s.state = .disabled ∧ s.homed = false ∧ s.absolutePosition = 0 ∧ s.deltaPosition = 0 ∧ s.targetPosition = 0 ∧
    s.totalSteps = 0 ∧ s.stepIncrement = .plus ∧ s.lowerLimit = -2000000000 ∧ s.upperLimit = 2000000000 ∧
    s.velocity = 0 ∧ s.velocityIncrement = s.params.vinc s.params.rampReset ∧ s.maxVelocity = 0 ∧
    s.rampSteps = 0 ∧ s.rampDownStep = 0 ∧ s.nextStepDeadline = 0 ∧
    s.outEn = .inactive ∧ s.outDir = .fwd ∧ s.outStep = .inactive ∧ s.params.Wf

/-! ## Decoding and the step -/

/-- 43_queries_dispatch.md R201, 00_scope.md R6: a step presents the next request with its inputs and runs the
operation it decodes to. -/
def Obligations.StepRunsTheDecodedOperation : Prop :=
  ∀ (s : State) (p : Presented) (later : List Presented) (i : Instr),
    s.homing = none → s.inbox = p :: later → i.WellFormed → decode p.request = .ok i →
      step s = exec i { s with
        inputs := if p.request = .reset then s.inputs else p.inputs
        inbox := later
        result := .nothing }

/-- 30_encoding.md R94, 43_queries_dispatch.md R198: a string that is no command is answered and changes nothing. -/
def Obligations.IllegalTextIsAnsweredAndChangesNothing : Prop :=
  ∀ (s : State) (text : List Byte) (inp : Inputs) (later : List Presented) (kind : ProtocolError),
    s.homing = none → s.inbox = { request := .cmd text, inputs := inp } :: later →
    decode (.cmd text) = .error kind →
      step s = .next { s with inputs := inp, inbox := later, result := .replied (.error kind) }

/-- 70_reset_and_hazards.md R250 (the block waits for the host): with nothing presented a step changes nothing. That
waiting is a step is the model's choice (log entry 2). -/
def Obligations.NothingPresentedNothingHappens : Prop :=
  ∀ s : State, s.homing = none → s.inbox = [] → step s = .next s

/-- 30_encoding.md R91, 95_test_vectors.md S12: the bytes of a few commands. -/
def Obligations.CommandBytesDecode : Prop :=
  decode (.cmd [0x45, 0x4E]) = .ok .en ∧
  decode (.cmd [0x53, 0x4C, 0x2D, 0x35, 0x30, 0x30]) = .ok (.sl (-500)) ∧
  decode (.cmd [0x53, 0x52, 0x35]) = .ok (.sr 5) ∧
  decode (.cmd [0x52, 0x41, 0x31, 0x30, 0x30, 0x30, 0x2B, 0x32, 0x30, 0x30, 0x30]) = .ok (.ra 1000 2000) ∧
  decode (.cmd [0x52, 0x52, 0x30, 0x32, 0x35, 0x30, 0x2D, 0x34, 0x30]) = .ok (.rr 250 (-40)) ∧
  decode (.cmd [0x46, 0x48]) = .ok .fh ∧ decode (.cmd [0x47, 0x54]) = .ok .gt ∧ decode .poll = .ok .poll

/-- 30_encoding.md R84 to R93: every operation with every operand comes back from its encoding. -/
def Obligations.EncodeThenDecodeGivesTheOperation : Prop :=
  ∀ i : Instr, i.WellFormed → decode (encode i) = .ok i

/-- 43_queries_dispatch.md R190: what passes the dispatcher's checks has its fields in range. -/
def Obligations.DecodedOperationsAreWellFormed : Prop :=
  ∀ (r : Request) (i : Instr), decode r = .ok i → i.WellFormed

/-- 30_encoding.md R88: a `sint` is an optional sign and one to ten digits, read most significant first; in 32 bits it
is the operand of `SL` and `SU`, outside it is a range error. -/
def Obligations.SignedIntegersReadAsWritten : Prop :=
  (∀ (bs : List Byte) (v : Int), decodeSint bs = some v ↔
    ∃ ds : List Nat, (∀ d ∈ ds, d < 10) ∧ 1 ≤ ds.length ∧ ds.length ≤ 10 ∧
      let text := ds.map fun d => BitVec.ofNat 8 (0x30 + d)
      let value : Int := (Nat.ofDigits 10 ds.reverse : Nat)
      ((bs = text ∧ v = value) ∨ (bs = 0x2B#8 :: text ∧ v = value) ∨ (bs = 0x2D#8 :: text ∧ v = -value))) ∧
  (∀ (bs : List Byte) (v : Int), decodeSint bs = some v →
    (FitsPos v → decodeText (0x53 :: 0x4C :: bs) = .ok (.sl v) ∧ decodeText (0x53 :: 0x55 :: bs) = .ok (.su v)) ∧
    (¬ FitsPos v → decodeText (0x53 :: 0x4C :: bs) = .error .range ∧ decodeText (0x53 :: 0x55 :: bs) = .error .range))

/-- 43_queries_dispatch.md R190, R199: the four kinds of protocol error, each with the strings that raise it. -/
def Obligations.ProtocolErrorsByKind : Prop :=
  (∀ cmd : List Byte, decodeText cmd = .error .tooShort ↔ cmd.length < 2) ∧
  (∀ (c0 c1 : Byte) (args : List Byte), decodeText (c0 :: c1 :: args) = .error .unknownCode ↔
    256 * c0.toNat + c1.toNat ∉ [0x454E, 0x4449, 0x4553, 0x4648, 0x5348, 0x534C, 0x5355, 0x5352, 0x5241, 0x5252,
      0x5248, 0x524C, 0x5255, 0x4741, 0x4752, 0x474C, 0x4755, 0x4754, 0x4756]) ∧
  (∀ (c0 c1 : Byte) (args : List Byte), 256 * c0.toNat + c1.toNat ∈ [0x454E, 0x4449, 0x4553, 0x4648, 0x5348,
      0x5248, 0x524C, 0x5255, 0x4741, 0x4752, 0x474C, 0x4755, 0x4754, 0x4756] →
    (decodeText (c0 :: c1 :: args) = .error .missingArg ↔ args ≠ []) ∧
      decodeText (c0 :: c1 :: args) ≠ .error .range) ∧
  (∀ args : List Byte,
    (decodeText (0x53 :: 0x52 :: args) = .error .missingArg ↔ args = []) ∧
    (decodeText (0x53 :: 0x52 :: args) = .error .range ↔
      args ≠ [] ∧ ∀ d < 10, args ≠ [BitVec.ofNat 8 (0x30 + d)])) ∧
  (∀ (c : Byte) (args : List Byte), c = 0x4C ∨ c = 0x55 →
    (decodeText (0x53 :: c :: args) = .error .missingArg ↔ decodeSint args = none) ∧
    (decodeText (0x53 :: c :: args) = .error .range ↔ ∃ v, decodeSint args = some v ∧ ¬ FitsPos v)) ∧
  (∀ (c : Byte) (vel : Nat) (args : List Byte), c = 0x41 ∨ c = 0x52 → vel ≤ 9999 →
    (decodeText (0x52 :: c :: renderVel vel ++ args) = .error .missingArg ↔ decodeSint args = none) ∧
    (decodeText (0x52 :: c :: renderVel vel ++ args) = .error .range ↔
      ∃ v, decodeSint args = some v ∧ (vel = 0 ∨ ¬ FitsPos v))) ∧
  (∀ (c : Byte) (args : List Byte), c = 0x41 ∨ c = 0x52 → (∀ vel ≤ 9999, args.take 4 ≠ renderVel vel) →
    decodeText (0x52 :: c :: args) = .error .missingArg)

/-! ## Whole-machine rules -/

/-- 00_scope.md R12, 60_exceptions.md R220: no step stops the machine. -/
def Obligations.NoStepStopsTheMachine : Prop :=
  (∀ s : State, ∃ t, step s = .next t) ∧ ∀ (i : Instr) (s : State), ∃ t, exec i s = .next t

/-- 10_state.md R49: the state after reset is sound. -/
def Obligations.ResetStateIsSound : Prop := Inv State.reset

/-- 10_state.md R24 to R29, R38, R42, R50, 42_step_scheduler.md R165: every step keeps the invariant of the
controller. -/
def Obligations.EveryStepKeepsTheInvariant : Prop :=
  ∀ s t : State, Inv s → step s = .next t → Inv t

/-- 60_exceptions.md R236, the transition table; its last row has the protocol errors, which are no operation. -/
def Obligations.ModeFollowsTheTransitionTable : Prop :=
  (∀ (i : Instr) (s t : State), exec i s = .next t → ModeRow s t i) ∧
  (∀ (s t : State) (p : Presented) (later : List Presented) (kind : ProtocolError), s.homing = none →
    s.inbox = p :: later → decode p.request = .error kind → step s = .next t → t.state = s.state)

/-- 10_state.md R47, the writer table, and R46: the construction parameters have no writer. A field none of whose
writers ran keeps its value. -/
def Obligations.FieldsChangeOnlyByTheirWriters : Prop :=
  ∀ (i : Instr) (s t : State), exec i s = .next t →
    Kept (i = .en ∨ i = .di ∨ i = .es ∨ i = .reset ∨ Launched s i ∨ (i = .poll ∧ EndResult t.result))
      s.state t.state ∧
    Kept (i = .en ∨ i = .di ∨ i = .es ∨ i = .sh ∨ i = .fh ∨ i = .reset) s.homed t.homed ∧
    Kept (i = .en ∨ i = .sh ∨ i = .fh ∨ i = .reset ∨ (i = .poll ∧ StepResult t.result))
      s.absolutePosition t.absolutePosition ∧
    Kept (i = .en ∨ i = .sh ∨ i = .fh ∨ i = .reset ∨ Launched s i ∨ (i = .poll ∧ StepResult t.result))
      s.deltaPosition t.deltaPosition ∧
    Kept (i = .es ∨ i = .reset ∨ Accepted s i) s.targetPosition t.targetPosition ∧
    Kept (i = .reset ∨ Accepted s i)
      (s.totalSteps, s.maxVelocity, s.rampSteps, s.rampDownStep)
      (t.totalSteps, t.maxVelocity, t.rampSteps, t.rampDownStep) ∧
    Kept (i = .reset ∨ Launched s i) s.stepIncrement t.stepIncrement ∧
    Kept (i = .reset ∨ ∃ v, i = .sl v) s.lowerLimit t.lowerLimit ∧
    Kept (i = .reset ∨ ∃ v, i = .su v) s.upperLimit t.upperLimit ∧
    Kept (i = .reset ∨ Accepted s i ∨ (i = .poll ∧ ∃ pos, t.result = .polled .stepped pos)) s.velocity t.velocity ∧
    Kept (i = .reset ∨ ∃ r, i = .sr r) s.velocityIncrement t.velocityIncrement ∧
    Kept (i = .reset ∨ Launched s i ∨ (i = .poll ∧ ∃ pos, t.result = .polled .stepped pos))
      s.nextStepDeadline t.nextStepDeadline ∧
    Kept (i = .en ∨ i = .di ∨ i = .es ∨ i = .reset) s.outEn t.outEn ∧
    Kept (i = .reset ∨ i = .fh ∨ Launched s i) s.outDir t.outDir ∧
    Kept (i = .poll ∨ i = .fh ∨ i = .es ∨ i = .reset) s.outStep t.outStep ∧
    t.params = s.params

/-- 00_scope.md R11: an operation only adds to the output trace, entries tagged with itself and its `now`; only polls
and homing pulse (10_state.md R47), and a pulse of a poll goes the way of the step increment. -/
def Obligations.TraceGrowsByTaggedEvents : Prop :=
  ∀ (i : Instr) (s t : State), exec i s = .next t →
    ∃ new, t.trace = s.trace ++ new ∧
      (∀ e ∈ new, e.op = i ∧ (i ≠ .reset → e.now = some s.inputs.now) ∧
        (IsPulse e.event → i = .poll ∨ i = .fh)) ∧
      (i = .poll → new = [] ∨ new = [entry .poll s (.stepPulse s.stepIncrement)])

/-- 10_state.md R50 (e): one operation moves the deadline at most one second past the larger of the old one and the
guard interval from now. -/
def Obligations.DeadlineGrowsByAtMostASecond : Prop :=
  ∀ (i : Instr) (s t : State), exec i s = .next t →
    t.nextStepDeadline ≤ max s.nextStepDeadline (s.inputs.now.toNat + s.params.tGuardUs) + 1000000

/-- 42_step_scheduler.md R165: at the port a pulse is an active level for `T_PULSE_US` and then the inactive one. -/
def Obligations.PulseIsActiveThenInactiveAtThePort : Prop :=
  ∀ (p : Params) (now : Option Time) (d : StepIncrement),
    TraceEntry.portCalls p { op := .poll, now := now, event := .stepPulse d } =
      [.setOutput .step p.polStep, .delayMicros p.tPulseUs, .setOutput .step (!p.polStep)]
end

