-- ==== Sys2Proof/Laws/Decode.lean ====
section
/-! SUPPORT. What the readers and the renderers of decimal fields give, and what the code map holds. -/

namespace Sys2Proof

/-! ### Digits -/

theorem digitValue_digitByte {d : Nat} (h : d < 10) : digitValue (digitByte d) = some d := by
  interval_cases d <;> decide

theorem digitValue_some {b : Byte} {d : Nat} (h : digitValue b = some d) : d < 10 ∧ b = digitByte d := by
  unfold digitValue at h
  split_ifs at h with hb
  injection h with h
  subst h
  refine ⟨by omega, BitVec.eq_of_toNat_eq ?_⟩
  simp [digitByte]
  omega

/-- A digit is neither sign. -/
theorem digitByte_not_sign {d : Nat} (h : d < 10) : digitByte d ≠ 0x2B#8 ∧ digitByte d ≠ 0x2D#8 := by
  interval_cases d <;> decide

/-- Digits are read most significant first. -/
theorem digitsFrom_map (ds : List Nat) (h : ∀ d ∈ ds, d < 10) (acc : Nat) :
    digitsFrom acc (ds.map digitByte) = some (acc * 10 ^ ds.length + Nat.ofDigits 10 ds.reverse) := by
  induction ds generalizing acc with
  | nil => simp [digitsFrom]
  | cons d ds ih =>
    simp only [List.map_cons, digitsFrom, digitValue_digitByte (h d (by simp))]
    rw [ih (fun x hx => h x (by simp [hx]))]
    simp only [List.length_cons, List.reverse_cons, Nat.ofDigits_append, List.length_reverse, Nat.ofDigits_singleton]
    congr 1
    ring

/-- Only digits are read. -/
theorem digitsFrom_some {bs : List Byte} {acc v : Nat} (h : digitsFrom acc bs = some v) :
    ∃ ds : List Nat, (∀ d ∈ ds, d < 10) ∧ bs = ds.map digitByte := by
  induction bs generalizing acc with
  | nil => exact ⟨[], by simp, rfl⟩
  | cons b bs ih =>
    unfold digitsFrom at h
    split at h
    · rename_i d hd
      obtain ⟨hlt, hb⟩ := digitValue_some hd
      obtain ⟨ds, h1, h2⟩ := ih h
      exact ⟨d :: ds, List.forall_mem_cons.2 ⟨hlt, h1⟩, by rw [hb, h2, List.map_cons]⟩
    · cases h

/-- One to ten digits, as they are written. -/
theorem decodeDigits_eq_some (bs : List Byte) (n : Nat) : decodeDigits bs = some n ↔
    ∃ ds : List Nat, (∀ d ∈ ds, d < 10) ∧ 1 ≤ ds.length ∧ ds.length ≤ 10 ∧ bs = ds.map digitByte ∧
      n = Nat.ofDigits 10 ds.reverse := by
  unfold decodeDigits
  constructor
  · intro h
    split_ifs at h with hl
    obtain ⟨ds, h1, rfl⟩ := digitsFrom_some h
    rw [digitsFrom_map ds h1] at h
    simp at h hl
    exact ⟨ds, h1, by simpa using hl.1, by simpa using hl.2, rfl, by omega⟩
  · rintro ⟨ds, h1, h2, h3, rfl, rfl⟩
    rw [if_pos (by simpa using ⟨h2, h3⟩), digitsFrom_map ds h1]
    simp

/-- What `renderDigits` writes with enough fuel. -/
theorem renderDigits_eq (fuel n : Nat) (acc : List Byte) (h : n < fuel) :
    renderDigits fuel n acc = (if n = 0 then [0x30#8] else (Nat.digits 10 n).reverse.map digitByte) ++ acc := by
  induction fuel generalizing n acc with
  | zero => omega
  | succ k ih =>
    unfold renderDigits
    by_cases h10 : n < 10
    · rw [if_pos h10]
      by_cases h0 : n = 0
      · subst h0; rfl
      · rw [if_neg h0, Nat.digits_of_lt 10 n h0 h10]; rfl
    · rw [if_neg h10, ih _ _ (by omega), if_neg (by omega), if_neg (by omega),
        Nat.digits_of_two_le_of_pos (by omega : 2 ≤ 10) (by omega : 0 < n)]
      simp

theorem renderNat_eq (n : Nat) :
    renderNat n = if n = 0 then [0x30#8] else (Nat.digits 10 n).reverse.map digitByte := by
  unfold renderNat
  rw [renderDigits_eq _ _ _ (Nat.lt_succ_self n), List.append_nil]

/-- A rendering has one byte at least, and no more than its number has digits. -/
theorem renderNat_length (n k : Nat) (hk : 1 ≤ k) (h : n < 10 ^ k) :
    1 ≤ (renderNat n).length ∧ (renderNat n).length ≤ k := by
  rw [renderNat_eq]
  split_ifs with h0
  · exact ⟨Nat.le_refl 1, hk⟩
  · rw [List.length_map, List.length_reverse]
    exact ⟨List.length_pos_iff.2 (Nat.digits_ne_nil_iff_ne_zero.2 h0), (Nat.digits_length_le_iff (by omega) n).2 h⟩

theorem renderInt_length (v : Int) (h : FitsPos v) : 1 ≤ (renderInt v).length ∧ (renderInt v).length ≤ 11 := by
  have h1 := h.1
  have h2 := h.2
  have hn := renderNat_length v.natAbs 10 (by omega) (by omega)
  unfold renderInt
  split_ifs
  · rw [List.length_cons]; omega
  · omega

theorem renderVel_length (vel : Nat) : (renderVel vel).length = 4 := rfl

/-- What is rendered is read back. -/
theorem decodeDigits_renderNat (n : Nat) (h : n < 10 ^ 10) : decodeDigits (renderNat n) = some n := by
  rw [decodeDigits_eq_some, renderNat_eq]
  by_cases h0 : n = 0
  · subst h0; exact ⟨[0], by simp, by simp, by simp, rfl, rfl⟩
  · rw [if_neg h0]
    refine ⟨(Nat.digits 10 n).reverse, ?_, ?_, ?_, rfl, ?_⟩
    · intro d hd; exact Nat.digits_lt_base (by omega) (by simpa using hd)
    · rw [List.length_reverse]; exact List.length_pos_iff.2 (Nat.digits_ne_nil_iff_ne_zero.2 h0)
    · rw [List.length_reverse]; exact (Nat.digits_length_le_iff (by omega) n).2 h
    · rw [List.reverse_reverse, Nat.ofDigits_digits]

/-- A rendering begins with a digit. -/
theorem renderNat_head (n : Nat) : ∃ d bs, d < 10 ∧ renderNat n = digitByte d :: bs := by
  rw [renderNat_eq]
  by_cases h0 : n = 0
  · rw [if_pos h0]; exact ⟨0, [], by omega, rfl⟩
  · rw [if_neg h0]
    have hne : (Nat.digits 10 n).reverse ≠ [] := by simpa using Nat.digits_ne_nil_iff_ne_zero.2 h0
    obtain ⟨d, ds, hd⟩ := List.exists_cons_of_ne_nil hne
    refine ⟨d, ds.map digitByte, Nat.digits_lt_base (b := 10) (m := n) (by omega) ?_, by rw [hd]; rfl⟩
    have : d ∈ (Nat.digits 10 n).reverse := by rw [hd]; simp
    simpa using this

theorem decodeSint_renderInt (v : Int) (h : FitsPos v) : decodeSint (renderInt v) = some v := by
  have h1 := h.1
  have h2 := h.2
  have hlt : v.natAbs < 10 ^ 10 := by omega
  have hd := decodeDigits_renderNat v.natAbs hlt
  unfold renderInt
  split_ifs with hv
  · show Option.map (fun (n : Nat) => -(n : Int)) (decodeDigits (renderNat v.natAbs)) = some v
    rw [hd]; show some (-(v.natAbs : Int)) = some v; congr 1; omega
  · obtain ⟨d, bs, hlt, he⟩ := renderNat_head v.natAbs
    rw [he] at hd ⊢
    have := digitByte_not_sign hlt
    simp only [decodeSint, if_neg this.1, if_neg this.2, hd]
    show some (v.natAbs : Int) = some v; congr 1; omega

theorem digitsFrom_renderVel (vel : Nat) (h : vel ≤ 9999) : digitsFrom 0 (renderVel vel) = some vel := by
  have := digitsFrom_map [vel / 1000 % 10, vel / 100 % 10, vel / 10 % 10, vel % 10] (by intro d hd; simp at hd; omega) 0
  rw [show renderVel vel = [vel / 1000 % 10, vel / 100 % 10, vel / 10 % 10, vel % 10].map digitByte from rfl, this]
  simp [Nat.ofDigits]
  omega

/-- Four digits are the velocity field of their value. -/
theorem digitsFrom_vel {d3 d2 d1 d0 : Byte} {v : Nat} (h : digitsFrom 0 [d3, d2, d1, d0] = some v) :
    v ≤ 9999 ∧ [d3, d2, d1, d0] = renderVel v := by
  obtain ⟨ds, h1, h2⟩ := digitsFrom_some h
  match ds, h1, h2 with
  | [a, b, c, d], h1, h2 =>
    rw [h2, digitsFrom_map _ h1] at h
    simp [Nat.ofDigits] at h h1
    obtain ⟨ha, hb, hc, hd⟩ := h1
    refine ⟨by omega, ?_⟩
    rw [h2]; unfold renderVel
    simp only [List.map_cons, List.map_nil]
    rw [show v / 1000 % 10 = a by omega, show v / 100 % 10 = b by omega, show v / 10 % 10 = c by omega,
      show v % 10 = d by omega]
  | [], _, h2 => simp at h2
  | [_], _, h2 => simp at h2
  | [_, _], _, h2 => simp at h2
  | [_, _, _], _, h2 => simp at h2
  | _ :: _ :: _ :: _ :: _ :: _, _, h2 => simp at h2

/-! ### The formats and the code map -/

/-- The fields of a `V` command whose velocity field is four digits. -/
theorem decodeArgs_v (make : Nat → Int → Instr) (vel : Nat) (args : List Byte) (h : vel ≤ 9999) :
    decodeArgs (.v make) (renderVel vel ++ args) = match decodeSint args with
      | some v => if vel = 0 ∨ ¬ FitsPos v then .error .range else .ok (make vel v)
      | none => .error .missingArg := by
  have := digitsFrom_renderVel vel h
  unfold renderVel at this ⊢
  simp only [List.cons_append, List.nil_append, decodeArgs, this]
  cases decodeSint args <;> rfl

/-- The fields are never blamed for the code. -/
theorem decodeArgs_kind (f : Format) (args : List Byte) :
    decodeArgs f args ≠ .error .tooShort ∧ decodeArgs f args ≠ .error .unknownCode := by
  unfold decodeArgs
  repeat' split
  all_goals exact ⟨by rintro ⟨⟩, by rintro ⟨⟩⟩

theorem codeTable_lookup_some {k : Nat} {f : Format} (h : codeTable.lookup k = some f) : (k, f) ∈ codeTable := by
  generalize codeTable = l at h ⊢
  induction l with
  | nil => simp at h
  | cons x xs ih =>
    obtain ⟨a, b⟩ := x
    rw [List.lookup_cons] at h
    split at h
    · rename_i e; simp at e h; simp [e, h]
    · exact List.mem_cons_of_mem _ (ih h)

theorem codeTable_lookup_none {k : Nat} : codeTable.lookup k = none ↔ k ∉ codeTable.map Prod.fst := by
  generalize codeTable = l
  induction l with
  | nil => simp
  | cons x xs ih =>
    obtain ⟨a, b⟩ := x
    rw [List.lookup_cons]
    by_cases e : k = a
    · simp [e]
    · have : (k == a) = false := by simpa using e
      rw [this]
      simp only [List.map_cons, List.mem_cons, not_or]
      rw [ih]
      exact ⟨fun h => ⟨e, h⟩, fun h => h.2⟩

/-- No two rows of the code map have one code (30_encoding.md R95). -/
theorem codeTable_codes_distinct : (codeTable.map Prod.fst).Nodup := by decide

end Sys2Proof
end

