-- ==== Sys2Proof/Laws/State.lean ====
section
/-! SUPPORT. What each named update of the state does to each field, true by unfolding, so that no later proof unfolds a
record update. -/

namespace Sys2Proof.Machine

variable (s : State)

/-! ### `State.present` -/

@[simp] theorem present_state (p : Presented) (later : List Presented) : (s.present p later).state = s.state := rfl
@[simp] theorem present_homed (p : Presented) (later : List Presented) : (s.present p later).homed = s.homed := rfl
@[simp] theorem present_absolutePosition (p : Presented) (later : List Presented) : (s.present p later).absolutePosition = s.absolutePosition := rfl
@[simp] theorem present_deltaPosition (p : Presented) (later : List Presented) : (s.present p later).deltaPosition = s.deltaPosition := rfl
@[simp] theorem present_targetPosition (p : Presented) (later : List Presented) : (s.present p later).targetPosition = s.targetPosition := rfl
@[simp] theorem present_totalSteps (p : Presented) (later : List Presented) : (s.present p later).totalSteps = s.totalSteps := rfl
@[simp] theorem present_stepIncrement (p : Presented) (later : List Presented) : (s.present p later).stepIncrement = s.stepIncrement := rfl
@[simp] theorem present_lowerLimit (p : Presented) (later : List Presented) : (s.present p later).lowerLimit = s.lowerLimit := rfl
@[simp] theorem present_upperLimit (p : Presented) (later : List Presented) : (s.present p later).upperLimit = s.upperLimit := rfl
@[simp] theorem present_velocity (p : Presented) (later : List Presented) : (s.present p later).velocity = s.velocity := rfl
@[simp] theorem present_velocityIncrement (p : Presented) (later : List Presented) : (s.present p later).velocityIncrement = s.velocityIncrement := rfl
@[simp] theorem present_maxVelocity (p : Presented) (later : List Presented) : (s.present p later).maxVelocity = s.maxVelocity := rfl
@[simp] theorem present_rampSteps (p : Presented) (later : List Presented) : (s.present p later).rampSteps = s.rampSteps := rfl
@[simp] theorem present_rampDownStep (p : Presented) (later : List Presented) : (s.present p later).rampDownStep = s.rampDownStep := rfl
@[simp] theorem present_nextStepDeadline (p : Presented) (later : List Presented) : (s.present p later).nextStepDeadline = s.nextStepDeadline := rfl
@[simp] theorem present_outEn (p : Presented) (later : List Presented) : (s.present p later).outEn = s.outEn := rfl
@[simp] theorem present_outDir (p : Presented) (later : List Presented) : (s.present p later).outDir = s.outDir := rfl
@[simp] theorem present_outStep (p : Presented) (later : List Presented) : (s.present p later).outStep = s.outStep := rfl
@[simp] theorem present_params (p : Presented) (later : List Presented) : (s.present p later).params = s.params := rfl
@[simp] theorem present_inputs (p : Presented) (later : List Presented) : (s.present p later).inputs = s.inputsAt p := rfl
@[simp] theorem present_inbox (p : Presented) (later : List Presented) : (s.present p later).inbox = later := rfl
@[simp] theorem present_homing (p : Presented) (later : List Presented) : (s.present p later).homing = s.homing := rfl
@[simp] theorem present_result (p : Presented) (later : List Presented) : (s.present p later).result = .nothing := rfl
@[simp] theorem present_trace (p : Presented) (later : List Presented) : (s.present p later).trace = s.trace := rfl

/-! ### `State.reply` -/

@[simp] theorem reply_state (r : Reply) : (s.reply r).state = s.state := rfl
@[simp] theorem reply_homed (r : Reply) : (s.reply r).homed = s.homed := rfl
@[simp] theorem reply_absolutePosition (r : Reply) : (s.reply r).absolutePosition = s.absolutePosition := rfl
@[simp] theorem reply_deltaPosition (r : Reply) : (s.reply r).deltaPosition = s.deltaPosition := rfl
@[simp] theorem reply_targetPosition (r : Reply) : (s.reply r).targetPosition = s.targetPosition := rfl
@[simp] theorem reply_totalSteps (r : Reply) : (s.reply r).totalSteps = s.totalSteps := rfl
@[simp] theorem reply_stepIncrement (r : Reply) : (s.reply r).stepIncrement = s.stepIncrement := rfl
@[simp] theorem reply_lowerLimit (r : Reply) : (s.reply r).lowerLimit = s.lowerLimit := rfl
@[simp] theorem reply_upperLimit (r : Reply) : (s.reply r).upperLimit = s.upperLimit := rfl
@[simp] theorem reply_velocity (r : Reply) : (s.reply r).velocity = s.velocity := rfl
@[simp] theorem reply_velocityIncrement (r : Reply) : (s.reply r).velocityIncrement = s.velocityIncrement := rfl
@[simp] theorem reply_maxVelocity (r : Reply) : (s.reply r).maxVelocity = s.maxVelocity := rfl
@[simp] theorem reply_rampSteps (r : Reply) : (s.reply r).rampSteps = s.rampSteps := rfl
@[simp] theorem reply_rampDownStep (r : Reply) : (s.reply r).rampDownStep = s.rampDownStep := rfl
@[simp] theorem reply_nextStepDeadline (r : Reply) : (s.reply r).nextStepDeadline = s.nextStepDeadline := rfl
@[simp] theorem reply_outEn (r : Reply) : (s.reply r).outEn = s.outEn := rfl
@[simp] theorem reply_outDir (r : Reply) : (s.reply r).outDir = s.outDir := rfl
@[simp] theorem reply_outStep (r : Reply) : (s.reply r).outStep = s.outStep := rfl
@[simp] theorem reply_params (r : Reply) : (s.reply r).params = s.params := rfl
@[simp] theorem reply_inputs (r : Reply) : (s.reply r).inputs = s.inputs := rfl
@[simp] theorem reply_inbox (r : Reply) : (s.reply r).inbox = s.inbox := rfl
@[simp] theorem reply_homing (r : Reply) : (s.reply r).homing = s.homing := rfl
@[simp] theorem reply_result (r : Reply) : (s.reply r).result = .replied r := rfl
@[simp] theorem reply_trace (r : Reply) : (s.reply r).trace = s.trace := rfl

/-! ### `State.signal` -/

@[simp] theorem signal_state (sig : Signal) : (s.signal sig).state = s.state := rfl
@[simp] theorem signal_homed (sig : Signal) : (s.signal sig).homed = s.homed := rfl
@[simp] theorem signal_absolutePosition (sig : Signal) : (s.signal sig).absolutePosition = s.absolutePosition := rfl
@[simp] theorem signal_deltaPosition (sig : Signal) : (s.signal sig).deltaPosition = s.deltaPosition := rfl
@[simp] theorem signal_targetPosition (sig : Signal) : (s.signal sig).targetPosition = s.targetPosition := rfl
@[simp] theorem signal_totalSteps (sig : Signal) : (s.signal sig).totalSteps = s.totalSteps := rfl
@[simp] theorem signal_stepIncrement (sig : Signal) : (s.signal sig).stepIncrement = s.stepIncrement := rfl
@[simp] theorem signal_lowerLimit (sig : Signal) : (s.signal sig).lowerLimit = s.lowerLimit := rfl
@[simp] theorem signal_upperLimit (sig : Signal) : (s.signal sig).upperLimit = s.upperLimit := rfl
@[simp] theorem signal_velocity (sig : Signal) : (s.signal sig).velocity = s.velocity := rfl
@[simp] theorem signal_velocityIncrement (sig : Signal) : (s.signal sig).velocityIncrement = s.velocityIncrement := rfl
@[simp] theorem signal_maxVelocity (sig : Signal) : (s.signal sig).maxVelocity = s.maxVelocity := rfl
@[simp] theorem signal_rampSteps (sig : Signal) : (s.signal sig).rampSteps = s.rampSteps := rfl
@[simp] theorem signal_rampDownStep (sig : Signal) : (s.signal sig).rampDownStep = s.rampDownStep := rfl
@[simp] theorem signal_nextStepDeadline (sig : Signal) : (s.signal sig).nextStepDeadline = s.nextStepDeadline := rfl
@[simp] theorem signal_outEn (sig : Signal) : (s.signal sig).outEn = s.outEn := rfl
@[simp] theorem signal_outDir (sig : Signal) : (s.signal sig).outDir = s.outDir := rfl
@[simp] theorem signal_outStep (sig : Signal) : (s.signal sig).outStep = s.outStep := rfl
@[simp] theorem signal_params (sig : Signal) : (s.signal sig).params = s.params := rfl
@[simp] theorem signal_inputs (sig : Signal) : (s.signal sig).inputs = s.inputs := rfl
@[simp] theorem signal_inbox (sig : Signal) : (s.signal sig).inbox = s.inbox := rfl
@[simp] theorem signal_homing (sig : Signal) : (s.signal sig).homing = s.homing := rfl
@[simp] theorem signal_result (sig : Signal) : (s.signal sig).result = .polled sig s.absolutePosition := rfl
@[simp] theorem signal_trace (sig : Signal) : (s.signal sig).trace = s.trace := rfl

/-! ### `State.protocolError` -/

@[simp] theorem protocolError_state (kind : ProtocolError) : (s.protocolError kind).state = s.state := rfl
@[simp] theorem protocolError_homed (kind : ProtocolError) : (s.protocolError kind).homed = s.homed := rfl
@[simp] theorem protocolError_absolutePosition (kind : ProtocolError) : (s.protocolError kind).absolutePosition = s.absolutePosition := rfl
@[simp] theorem protocolError_deltaPosition (kind : ProtocolError) : (s.protocolError kind).deltaPosition = s.deltaPosition := rfl
@[simp] theorem protocolError_targetPosition (kind : ProtocolError) : (s.protocolError kind).targetPosition = s.targetPosition := rfl
@[simp] theorem protocolError_totalSteps (kind : ProtocolError) : (s.protocolError kind).totalSteps = s.totalSteps := rfl
@[simp] theorem protocolError_stepIncrement (kind : ProtocolError) : (s.protocolError kind).stepIncrement = s.stepIncrement := rfl
@[simp] theorem protocolError_lowerLimit (kind : ProtocolError) : (s.protocolError kind).lowerLimit = s.lowerLimit := rfl
@[simp] theorem protocolError_upperLimit (kind : ProtocolError) : (s.protocolError kind).upperLimit = s.upperLimit := rfl
@[simp] theorem protocolError_velocity (kind : ProtocolError) : (s.protocolError kind).velocity = s.velocity := rfl
@[simp] theorem protocolError_velocityIncrement (kind : ProtocolError) : (s.protocolError kind).velocityIncrement = s.velocityIncrement := rfl
@[simp] theorem protocolError_maxVelocity (kind : ProtocolError) : (s.protocolError kind).maxVelocity = s.maxVelocity := rfl
@[simp] theorem protocolError_rampSteps (kind : ProtocolError) : (s.protocolError kind).rampSteps = s.rampSteps := rfl
@[simp] theorem protocolError_rampDownStep (kind : ProtocolError) : (s.protocolError kind).rampDownStep = s.rampDownStep := rfl
@[simp] theorem protocolError_nextStepDeadline (kind : ProtocolError) : (s.protocolError kind).nextStepDeadline = s.nextStepDeadline := rfl
@[simp] theorem protocolError_outEn (kind : ProtocolError) : (s.protocolError kind).outEn = s.outEn := rfl
@[simp] theorem protocolError_outDir (kind : ProtocolError) : (s.protocolError kind).outDir = s.outDir := rfl
@[simp] theorem protocolError_outStep (kind : ProtocolError) : (s.protocolError kind).outStep = s.outStep := rfl
@[simp] theorem protocolError_params (kind : ProtocolError) : (s.protocolError kind).params = s.params := rfl
@[simp] theorem protocolError_inputs (kind : ProtocolError) : (s.protocolError kind).inputs = s.inputs := rfl
@[simp] theorem protocolError_inbox (kind : ProtocolError) : (s.protocolError kind).inbox = s.inbox := rfl
@[simp] theorem protocolError_homing (kind : ProtocolError) : (s.protocolError kind).homing = s.homing := rfl
@[simp] theorem protocolError_result (kind : ProtocolError) : (s.protocolError kind).result = .replied (.error kind) := rfl
@[simp] theorem protocolError_trace (kind : ProtocolError) : (s.protocolError kind).trace = s.trace := rfl

/-! ### `State.endMove` -/

@[simp] theorem endMove_state (sig : Signal) : (s.endMove sig).state = .enabled := rfl
@[simp] theorem endMove_homed (sig : Signal) : (s.endMove sig).homed = s.homed := rfl
@[simp] theorem endMove_absolutePosition (sig : Signal) : (s.endMove sig).absolutePosition = s.absolutePosition := rfl
@[simp] theorem endMove_deltaPosition (sig : Signal) : (s.endMove sig).deltaPosition = s.deltaPosition := rfl
@[simp] theorem endMove_targetPosition (sig : Signal) : (s.endMove sig).targetPosition = s.targetPosition := rfl
@[simp] theorem endMove_totalSteps (sig : Signal) : (s.endMove sig).totalSteps = s.totalSteps := rfl
@[simp] theorem endMove_stepIncrement (sig : Signal) : (s.endMove sig).stepIncrement = s.stepIncrement := rfl
@[simp] theorem endMove_lowerLimit (sig : Signal) : (s.endMove sig).lowerLimit = s.lowerLimit := rfl
@[simp] theorem endMove_upperLimit (sig : Signal) : (s.endMove sig).upperLimit = s.upperLimit := rfl
@[simp] theorem endMove_velocity (sig : Signal) : (s.endMove sig).velocity = s.velocity := rfl
@[simp] theorem endMove_velocityIncrement (sig : Signal) : (s.endMove sig).velocityIncrement = s.velocityIncrement := rfl
@[simp] theorem endMove_maxVelocity (sig : Signal) : (s.endMove sig).maxVelocity = s.maxVelocity := rfl
@[simp] theorem endMove_rampSteps (sig : Signal) : (s.endMove sig).rampSteps = s.rampSteps := rfl
@[simp] theorem endMove_rampDownStep (sig : Signal) : (s.endMove sig).rampDownStep = s.rampDownStep := rfl
@[simp] theorem endMove_nextStepDeadline (sig : Signal) : (s.endMove sig).nextStepDeadline = s.nextStepDeadline := rfl
@[simp] theorem endMove_outEn (sig : Signal) : (s.endMove sig).outEn = s.outEn := rfl
@[simp] theorem endMove_outDir (sig : Signal) : (s.endMove sig).outDir = s.outDir := rfl
@[simp] theorem endMove_outStep (sig : Signal) : (s.endMove sig).outStep = s.outStep := rfl
@[simp] theorem endMove_params (sig : Signal) : (s.endMove sig).params = s.params := rfl
@[simp] theorem endMove_inputs (sig : Signal) : (s.endMove sig).inputs = s.inputs := rfl
@[simp] theorem endMove_inbox (sig : Signal) : (s.endMove sig).inbox = s.inbox := rfl
@[simp] theorem endMove_homing (sig : Signal) : (s.endMove sig).homing = s.homing := rfl
@[simp] theorem endMove_result (sig : Signal) : (s.endMove sig).result = .polled sig s.absolutePosition := rfl
@[simp] theorem endMove_trace (sig : Signal) : (s.endMove sig).trace = s.trace := rfl

/-! ### `State.emit` -/

@[simp] theorem emit_state (op : Instr) (e : OutputEvent) : (s.emit op e).state = s.state := rfl
@[simp] theorem emit_homed (op : Instr) (e : OutputEvent) : (s.emit op e).homed = s.homed := rfl
@[simp] theorem emit_absolutePosition (op : Instr) (e : OutputEvent) : (s.emit op e).absolutePosition = s.absolutePosition := rfl
@[simp] theorem emit_deltaPosition (op : Instr) (e : OutputEvent) : (s.emit op e).deltaPosition = s.deltaPosition := rfl
@[simp] theorem emit_targetPosition (op : Instr) (e : OutputEvent) : (s.emit op e).targetPosition = s.targetPosition := rfl
@[simp] theorem emit_totalSteps (op : Instr) (e : OutputEvent) : (s.emit op e).totalSteps = s.totalSteps := rfl
@[simp] theorem emit_stepIncrement (op : Instr) (e : OutputEvent) : (s.emit op e).stepIncrement = s.stepIncrement := rfl
@[simp] theorem emit_lowerLimit (op : Instr) (e : OutputEvent) : (s.emit op e).lowerLimit = s.lowerLimit := rfl
@[simp] theorem emit_upperLimit (op : Instr) (e : OutputEvent) : (s.emit op e).upperLimit = s.upperLimit := rfl
@[simp] theorem emit_velocity (op : Instr) (e : OutputEvent) : (s.emit op e).velocity = s.velocity := rfl
@[simp] theorem emit_velocityIncrement (op : Instr) (e : OutputEvent) : (s.emit op e).velocityIncrement = s.velocityIncrement := rfl
@[simp] theorem emit_maxVelocity (op : Instr) (e : OutputEvent) : (s.emit op e).maxVelocity = s.maxVelocity := rfl
@[simp] theorem emit_rampSteps (op : Instr) (e : OutputEvent) : (s.emit op e).rampSteps = s.rampSteps := rfl
@[simp] theorem emit_rampDownStep (op : Instr) (e : OutputEvent) : (s.emit op e).rampDownStep = s.rampDownStep := rfl
@[simp] theorem emit_nextStepDeadline (op : Instr) (e : OutputEvent) : (s.emit op e).nextStepDeadline = s.nextStepDeadline := rfl
@[simp] theorem emit_outEn (op : Instr) (e : OutputEvent) : (s.emit op e).outEn = s.outEn := rfl
@[simp] theorem emit_outDir (op : Instr) (e : OutputEvent) : (s.emit op e).outDir = s.outDir := rfl
@[simp] theorem emit_outStep (op : Instr) (e : OutputEvent) : (s.emit op e).outStep = s.outStep := rfl
@[simp] theorem emit_params (op : Instr) (e : OutputEvent) : (s.emit op e).params = s.params := rfl
@[simp] theorem emit_inputs (op : Instr) (e : OutputEvent) : (s.emit op e).inputs = s.inputs := rfl
@[simp] theorem emit_inbox (op : Instr) (e : OutputEvent) : (s.emit op e).inbox = s.inbox := rfl
@[simp] theorem emit_homing (op : Instr) (e : OutputEvent) : (s.emit op e).homing = s.homing := rfl
@[simp] theorem emit_result (op : Instr) (e : OutputEvent) : (s.emit op e).result = s.result := rfl
@[simp] theorem emit_trace (op : Instr) (e : OutputEvent) : (s.emit op e).trace = s.trace ++ [{ op := op, now := some s.inputs.now, event := e }] := rfl

/-! ### `State.driveEn` -/

@[simp] theorem driveEn_state (op : Instr) (l : DriveLevel) : (s.driveEn op l).state = s.state := rfl
@[simp] theorem driveEn_homed (op : Instr) (l : DriveLevel) : (s.driveEn op l).homed = s.homed := rfl
@[simp] theorem driveEn_absolutePosition (op : Instr) (l : DriveLevel) : (s.driveEn op l).absolutePosition = s.absolutePosition := rfl
@[simp] theorem driveEn_deltaPosition (op : Instr) (l : DriveLevel) : (s.driveEn op l).deltaPosition = s.deltaPosition := rfl
@[simp] theorem driveEn_targetPosition (op : Instr) (l : DriveLevel) : (s.driveEn op l).targetPosition = s.targetPosition := rfl
@[simp] theorem driveEn_totalSteps (op : Instr) (l : DriveLevel) : (s.driveEn op l).totalSteps = s.totalSteps := rfl
@[simp] theorem driveEn_stepIncrement (op : Instr) (l : DriveLevel) : (s.driveEn op l).stepIncrement = s.stepIncrement := rfl
@[simp] theorem driveEn_lowerLimit (op : Instr) (l : DriveLevel) : (s.driveEn op l).lowerLimit = s.lowerLimit := rfl
@[simp] theorem driveEn_upperLimit (op : Instr) (l : DriveLevel) : (s.driveEn op l).upperLimit = s.upperLimit := rfl
@[simp] theorem driveEn_velocity (op : Instr) (l : DriveLevel) : (s.driveEn op l).velocity = s.velocity := rfl
@[simp] theorem driveEn_velocityIncrement (op : Instr) (l : DriveLevel) : (s.driveEn op l).velocityIncrement = s.velocityIncrement := rfl
@[simp] theorem driveEn_maxVelocity (op : Instr) (l : DriveLevel) : (s.driveEn op l).maxVelocity = s.maxVelocity := rfl
@[simp] theorem driveEn_rampSteps (op : Instr) (l : DriveLevel) : (s.driveEn op l).rampSteps = s.rampSteps := rfl
@[simp] theorem driveEn_rampDownStep (op : Instr) (l : DriveLevel) : (s.driveEn op l).rampDownStep = s.rampDownStep := rfl
@[simp] theorem driveEn_nextStepDeadline (op : Instr) (l : DriveLevel) : (s.driveEn op l).nextStepDeadline = s.nextStepDeadline := rfl
@[simp] theorem driveEn_outEn (op : Instr) (l : DriveLevel) : (s.driveEn op l).outEn = l := rfl
@[simp] theorem driveEn_outDir (op : Instr) (l : DriveLevel) : (s.driveEn op l).outDir = s.outDir := rfl
@[simp] theorem driveEn_outStep (op : Instr) (l : DriveLevel) : (s.driveEn op l).outStep = s.outStep := rfl
@[simp] theorem driveEn_params (op : Instr) (l : DriveLevel) : (s.driveEn op l).params = s.params := rfl
@[simp] theorem driveEn_inputs (op : Instr) (l : DriveLevel) : (s.driveEn op l).inputs = s.inputs := rfl
@[simp] theorem driveEn_inbox (op : Instr) (l : DriveLevel) : (s.driveEn op l).inbox = s.inbox := rfl
@[simp] theorem driveEn_homing (op : Instr) (l : DriveLevel) : (s.driveEn op l).homing = s.homing := rfl
@[simp] theorem driveEn_result (op : Instr) (l : DriveLevel) : (s.driveEn op l).result = s.result := rfl
@[simp] theorem driveEn_trace (op : Instr) (l : DriveLevel) : (s.driveEn op l).trace = s.trace ++ [{ op := op, now := some s.inputs.now, event := .enWrite l }] := rfl

/-! ### `State.driveDir` -/

@[simp] theorem driveDir_state (op : Instr) (l : DirLevel) : (s.driveDir op l).state = s.state := rfl
@[simp] theorem driveDir_homed (op : Instr) (l : DirLevel) : (s.driveDir op l).homed = s.homed := rfl
@[simp] theorem driveDir_absolutePosition (op : Instr) (l : DirLevel) : (s.driveDir op l).absolutePosition = s.absolutePosition := rfl
@[simp] theorem driveDir_deltaPosition (op : Instr) (l : DirLevel) : (s.driveDir op l).deltaPosition = s.deltaPosition := rfl
@[simp] theorem driveDir_targetPosition (op : Instr) (l : DirLevel) : (s.driveDir op l).targetPosition = s.targetPosition := rfl
@[simp] theorem driveDir_totalSteps (op : Instr) (l : DirLevel) : (s.driveDir op l).totalSteps = s.totalSteps := rfl
@[simp] theorem driveDir_stepIncrement (op : Instr) (l : DirLevel) : (s.driveDir op l).stepIncrement = s.stepIncrement := rfl
@[simp] theorem driveDir_lowerLimit (op : Instr) (l : DirLevel) : (s.driveDir op l).lowerLimit = s.lowerLimit := rfl
@[simp] theorem driveDir_upperLimit (op : Instr) (l : DirLevel) : (s.driveDir op l).upperLimit = s.upperLimit := rfl
@[simp] theorem driveDir_velocity (op : Instr) (l : DirLevel) : (s.driveDir op l).velocity = s.velocity := rfl
@[simp] theorem driveDir_velocityIncrement (op : Instr) (l : DirLevel) : (s.driveDir op l).velocityIncrement = s.velocityIncrement := rfl
@[simp] theorem driveDir_maxVelocity (op : Instr) (l : DirLevel) : (s.driveDir op l).maxVelocity = s.maxVelocity := rfl
@[simp] theorem driveDir_rampSteps (op : Instr) (l : DirLevel) : (s.driveDir op l).rampSteps = s.rampSteps := rfl
@[simp] theorem driveDir_rampDownStep (op : Instr) (l : DirLevel) : (s.driveDir op l).rampDownStep = s.rampDownStep := rfl
@[simp] theorem driveDir_nextStepDeadline (op : Instr) (l : DirLevel) : (s.driveDir op l).nextStepDeadline = s.nextStepDeadline := rfl
@[simp] theorem driveDir_outEn (op : Instr) (l : DirLevel) : (s.driveDir op l).outEn = s.outEn := rfl
@[simp] theorem driveDir_outDir (op : Instr) (l : DirLevel) : (s.driveDir op l).outDir = l := rfl
@[simp] theorem driveDir_outStep (op : Instr) (l : DirLevel) : (s.driveDir op l).outStep = s.outStep := rfl
@[simp] theorem driveDir_params (op : Instr) (l : DirLevel) : (s.driveDir op l).params = s.params := rfl
@[simp] theorem driveDir_inputs (op : Instr) (l : DirLevel) : (s.driveDir op l).inputs = s.inputs := rfl
@[simp] theorem driveDir_inbox (op : Instr) (l : DirLevel) : (s.driveDir op l).inbox = s.inbox := rfl
@[simp] theorem driveDir_homing (op : Instr) (l : DirLevel) : (s.driveDir op l).homing = s.homing := rfl
@[simp] theorem driveDir_result (op : Instr) (l : DirLevel) : (s.driveDir op l).result = s.result := rfl
@[simp] theorem driveDir_trace (op : Instr) (l : DirLevel) : (s.driveDir op l).trace = s.trace ++ [{ op := op, now := some s.inputs.now, event := .dirWrite l }] := rfl

/-! ### `State.driveStep` -/

@[simp] theorem driveStep_state (op : Instr) (l : DriveLevel) : (s.driveStep op l).state = s.state := rfl
@[simp] theorem driveStep_homed (op : Instr) (l : DriveLevel) : (s.driveStep op l).homed = s.homed := rfl
@[simp] theorem driveStep_absolutePosition (op : Instr) (l : DriveLevel) : (s.driveStep op l).absolutePosition = s.absolutePosition := rfl
@[simp] theorem driveStep_deltaPosition (op : Instr) (l : DriveLevel) : (s.driveStep op l).deltaPosition = s.deltaPosition := rfl
@[simp] theorem driveStep_targetPosition (op : Instr) (l : DriveLevel) : (s.driveStep op l).targetPosition = s.targetPosition := rfl
@[simp] theorem driveStep_totalSteps (op : Instr) (l : DriveLevel) : (s.driveStep op l).totalSteps = s.totalSteps := rfl
@[simp] theorem driveStep_stepIncrement (op : Instr) (l : DriveLevel) : (s.driveStep op l).stepIncrement = s.stepIncrement := rfl
@[simp] theorem driveStep_lowerLimit (op : Instr) (l : DriveLevel) : (s.driveStep op l).lowerLimit = s.lowerLimit := rfl
@[simp] theorem driveStep_upperLimit (op : Instr) (l : DriveLevel) : (s.driveStep op l).upperLimit = s.upperLimit := rfl
@[simp] theorem driveStep_velocity (op : Instr) (l : DriveLevel) : (s.driveStep op l).velocity = s.velocity := rfl
@[simp] theorem driveStep_velocityIncrement (op : Instr) (l : DriveLevel) : (s.driveStep op l).velocityIncrement = s.velocityIncrement := rfl
@[simp] theorem driveStep_maxVelocity (op : Instr) (l : DriveLevel) : (s.driveStep op l).maxVelocity = s.maxVelocity := rfl
@[simp] theorem driveStep_rampSteps (op : Instr) (l : DriveLevel) : (s.driveStep op l).rampSteps = s.rampSteps := rfl
@[simp] theorem driveStep_rampDownStep (op : Instr) (l : DriveLevel) : (s.driveStep op l).rampDownStep = s.rampDownStep := rfl
@[simp] theorem driveStep_nextStepDeadline (op : Instr) (l : DriveLevel) : (s.driveStep op l).nextStepDeadline = s.nextStepDeadline := rfl
@[simp] theorem driveStep_outEn (op : Instr) (l : DriveLevel) : (s.driveStep op l).outEn = s.outEn := rfl
@[simp] theorem driveStep_outDir (op : Instr) (l : DriveLevel) : (s.driveStep op l).outDir = s.outDir := rfl
@[simp] theorem driveStep_outStep (op : Instr) (l : DriveLevel) : (s.driveStep op l).outStep = l := rfl
@[simp] theorem driveStep_params (op : Instr) (l : DriveLevel) : (s.driveStep op l).params = s.params := rfl
@[simp] theorem driveStep_inputs (op : Instr) (l : DriveLevel) : (s.driveStep op l).inputs = s.inputs := rfl
@[simp] theorem driveStep_inbox (op : Instr) (l : DriveLevel) : (s.driveStep op l).inbox = s.inbox := rfl
@[simp] theorem driveStep_homing (op : Instr) (l : DriveLevel) : (s.driveStep op l).homing = s.homing := rfl
@[simp] theorem driveStep_result (op : Instr) (l : DriveLevel) : (s.driveStep op l).result = s.result := rfl
@[simp] theorem driveStep_trace (op : Instr) (l : DriveLevel) : (s.driveStep op l).trace = s.trace ++ [{ op := op, now := some s.inputs.now, event := .stepWrite l }] := rfl

/-! ### `State.pulse` -/

@[simp] theorem pulse_state (op : Instr) (d : StepIncrement) : (s.pulse op d).state = s.state := rfl
@[simp] theorem pulse_homed (op : Instr) (d : StepIncrement) : (s.pulse op d).homed = s.homed := rfl
@[simp] theorem pulse_absolutePosition (op : Instr) (d : StepIncrement) : (s.pulse op d).absolutePosition = s.absolutePosition := rfl
@[simp] theorem pulse_deltaPosition (op : Instr) (d : StepIncrement) : (s.pulse op d).deltaPosition = s.deltaPosition := rfl
@[simp] theorem pulse_targetPosition (op : Instr) (d : StepIncrement) : (s.pulse op d).targetPosition = s.targetPosition := rfl
@[simp] theorem pulse_totalSteps (op : Instr) (d : StepIncrement) : (s.pulse op d).totalSteps = s.totalSteps := rfl
@[simp] theorem pulse_stepIncrement (op : Instr) (d : StepIncrement) : (s.pulse op d).stepIncrement = s.stepIncrement := rfl
@[simp] theorem pulse_lowerLimit (op : Instr) (d : StepIncrement) : (s.pulse op d).lowerLimit = s.lowerLimit := rfl
@[simp] theorem pulse_upperLimit (op : Instr) (d : StepIncrement) : (s.pulse op d).upperLimit = s.upperLimit := rfl
@[simp] theorem pulse_velocity (op : Instr) (d : StepIncrement) : (s.pulse op d).velocity = s.velocity := rfl
@[simp] theorem pulse_velocityIncrement (op : Instr) (d : StepIncrement) : (s.pulse op d).velocityIncrement = s.velocityIncrement := rfl
@[simp] theorem pulse_maxVelocity (op : Instr) (d : StepIncrement) : (s.pulse op d).maxVelocity = s.maxVelocity := rfl
@[simp] theorem pulse_rampSteps (op : Instr) (d : StepIncrement) : (s.pulse op d).rampSteps = s.rampSteps := rfl
@[simp] theorem pulse_rampDownStep (op : Instr) (d : StepIncrement) : (s.pulse op d).rampDownStep = s.rampDownStep := rfl
@[simp] theorem pulse_nextStepDeadline (op : Instr) (d : StepIncrement) : (s.pulse op d).nextStepDeadline = s.nextStepDeadline := rfl
@[simp] theorem pulse_outEn (op : Instr) (d : StepIncrement) : (s.pulse op d).outEn = s.outEn := rfl
@[simp] theorem pulse_outDir (op : Instr) (d : StepIncrement) : (s.pulse op d).outDir = s.outDir := rfl
@[simp] theorem pulse_outStep (op : Instr) (d : StepIncrement) : (s.pulse op d).outStep = .inactive := rfl
@[simp] theorem pulse_params (op : Instr) (d : StepIncrement) : (s.pulse op d).params = s.params := rfl
@[simp] theorem pulse_inputs (op : Instr) (d : StepIncrement) : (s.pulse op d).inputs = s.inputs := rfl
@[simp] theorem pulse_inbox (op : Instr) (d : StepIncrement) : (s.pulse op d).inbox = s.inbox := rfl
@[simp] theorem pulse_homing (op : Instr) (d : StepIncrement) : (s.pulse op d).homing = s.homing := rfl
@[simp] theorem pulse_result (op : Instr) (d : StepIncrement) : (s.pulse op d).result = s.result := rfl
@[simp] theorem pulse_trace (op : Instr) (d : StepIncrement) : (s.pulse op d).trace = s.trace ++ [{ op := op, now := some s.inputs.now, event := .stepPulse d }] := rfl

/-! ### `State.setHome` -/

@[simp] theorem setHome_state : (s.setHome).state = s.state := rfl
@[simp] theorem setHome_homed : (s.setHome).homed = true := rfl
@[simp] theorem setHome_absolutePosition : (s.setHome).absolutePosition = 0 := rfl
@[simp] theorem setHome_deltaPosition : (s.setHome).deltaPosition = 0 := rfl
@[simp] theorem setHome_targetPosition : (s.setHome).targetPosition = s.targetPosition := rfl
@[simp] theorem setHome_totalSteps : (s.setHome).totalSteps = s.totalSteps := rfl
@[simp] theorem setHome_stepIncrement : (s.setHome).stepIncrement = s.stepIncrement := rfl
@[simp] theorem setHome_lowerLimit : (s.setHome).lowerLimit = s.lowerLimit := rfl
@[simp] theorem setHome_upperLimit : (s.setHome).upperLimit = s.upperLimit := rfl
@[simp] theorem setHome_velocity : (s.setHome).velocity = s.velocity := rfl
@[simp] theorem setHome_velocityIncrement : (s.setHome).velocityIncrement = s.velocityIncrement := rfl
@[simp] theorem setHome_maxVelocity : (s.setHome).maxVelocity = s.maxVelocity := rfl
@[simp] theorem setHome_rampSteps : (s.setHome).rampSteps = s.rampSteps := rfl
@[simp] theorem setHome_rampDownStep : (s.setHome).rampDownStep = s.rampDownStep := rfl
@[simp] theorem setHome_nextStepDeadline : (s.setHome).nextStepDeadline = s.nextStepDeadline := rfl
@[simp] theorem setHome_outEn : (s.setHome).outEn = s.outEn := rfl
@[simp] theorem setHome_outDir : (s.setHome).outDir = s.outDir := rfl
@[simp] theorem setHome_outStep : (s.setHome).outStep = s.outStep := rfl
@[simp] theorem setHome_params : (s.setHome).params = s.params := rfl
@[simp] theorem setHome_inputs : (s.setHome).inputs = s.inputs := rfl
@[simp] theorem setHome_inbox : (s.setHome).inbox = s.inbox := rfl
@[simp] theorem setHome_homing : (s.setHome).homing = s.homing := rfl
@[simp] theorem setHome_result : (s.setHome).result = s.result := rfl
@[simp] theorem setHome_trace : (s.setHome).trace = s.trace := rfl

/-! ### `State.clearHomed` -/

@[simp] theorem clearHomed_state : (s.clearHomed).state = s.state := rfl
@[simp] theorem clearHomed_homed : (s.clearHomed).homed = false := rfl
@[simp] theorem clearHomed_absolutePosition : (s.clearHomed).absolutePosition = s.absolutePosition := rfl
@[simp] theorem clearHomed_deltaPosition : (s.clearHomed).deltaPosition = s.deltaPosition := rfl
@[simp] theorem clearHomed_targetPosition : (s.clearHomed).targetPosition = s.targetPosition := rfl
@[simp] theorem clearHomed_totalSteps : (s.clearHomed).totalSteps = s.totalSteps := rfl
@[simp] theorem clearHomed_stepIncrement : (s.clearHomed).stepIncrement = s.stepIncrement := rfl
@[simp] theorem clearHomed_lowerLimit : (s.clearHomed).lowerLimit = s.lowerLimit := rfl
@[simp] theorem clearHomed_upperLimit : (s.clearHomed).upperLimit = s.upperLimit := rfl
@[simp] theorem clearHomed_velocity : (s.clearHomed).velocity = s.velocity := rfl
@[simp] theorem clearHomed_velocityIncrement : (s.clearHomed).velocityIncrement = s.velocityIncrement := rfl
@[simp] theorem clearHomed_maxVelocity : (s.clearHomed).maxVelocity = s.maxVelocity := rfl
@[simp] theorem clearHomed_rampSteps : (s.clearHomed).rampSteps = s.rampSteps := rfl
@[simp] theorem clearHomed_rampDownStep : (s.clearHomed).rampDownStep = s.rampDownStep := rfl
@[simp] theorem clearHomed_nextStepDeadline : (s.clearHomed).nextStepDeadline = s.nextStepDeadline := rfl
@[simp] theorem clearHomed_outEn : (s.clearHomed).outEn = s.outEn := rfl
@[simp] theorem clearHomed_outDir : (s.clearHomed).outDir = s.outDir := rfl
@[simp] theorem clearHomed_outStep : (s.clearHomed).outStep = s.outStep := rfl
@[simp] theorem clearHomed_params : (s.clearHomed).params = s.params := rfl
@[simp] theorem clearHomed_inputs : (s.clearHomed).inputs = s.inputs := rfl
@[simp] theorem clearHomed_inbox : (s.clearHomed).inbox = s.inbox := rfl
@[simp] theorem clearHomed_homing : (s.clearHomed).homing = s.homing := rfl
@[simp] theorem clearHomed_result : (s.clearHomed).result = s.result := rfl
@[simp] theorem clearHomed_trace : (s.clearHomed).trace = s.trace := rfl

/-! ### `State.setMove` -/

@[simp] theorem setMove_state (target : Int) (vmax : Nat) : (s.setMove target vmax).state = s.state := rfl
@[simp] theorem setMove_homed (target : Int) (vmax : Nat) : (s.setMove target vmax).homed = s.homed := rfl
@[simp] theorem setMove_absolutePosition (target : Int) (vmax : Nat) : (s.setMove target vmax).absolutePosition = s.absolutePosition := rfl
@[simp] theorem setMove_deltaPosition (target : Int) (vmax : Nat) : (s.setMove target vmax).deltaPosition = s.deltaPosition := rfl
@[simp] theorem setMove_targetPosition (target : Int) (vmax : Nat) : (s.setMove target vmax).targetPosition = target := rfl
@[simp] theorem setMove_totalSteps (target : Int) (vmax : Nat) : (s.setMove target vmax).totalSteps = (target - s.absolutePosition).natAbs := rfl
@[simp] theorem setMove_stepIncrement (target : Int) (vmax : Nat) : (s.setMove target vmax).stepIncrement = s.stepIncrement := rfl
@[simp] theorem setMove_lowerLimit (target : Int) (vmax : Nat) : (s.setMove target vmax).lowerLimit = s.lowerLimit := rfl
@[simp] theorem setMove_upperLimit (target : Int) (vmax : Nat) : (s.setMove target vmax).upperLimit = s.upperLimit := rfl
@[simp] theorem setMove_velocity (target : Int) (vmax : Nat) : (s.setMove target vmax).velocity = s.velocity := rfl
@[simp] theorem setMove_velocityIncrement (target : Int) (vmax : Nat) : (s.setMove target vmax).velocityIncrement = s.velocityIncrement := rfl
@[simp] theorem setMove_maxVelocity (target : Int) (vmax : Nat) : (s.setMove target vmax).maxVelocity = vmax := rfl
@[simp] theorem setMove_rampSteps (target : Int) (vmax : Nat) : (s.setMove target vmax).rampSteps = s.rampSteps := rfl
@[simp] theorem setMove_rampDownStep (target : Int) (vmax : Nat) : (s.setMove target vmax).rampDownStep = s.rampDownStep := rfl
@[simp] theorem setMove_nextStepDeadline (target : Int) (vmax : Nat) : (s.setMove target vmax).nextStepDeadline = s.nextStepDeadline := rfl
@[simp] theorem setMove_outEn (target : Int) (vmax : Nat) : (s.setMove target vmax).outEn = s.outEn := rfl
@[simp] theorem setMove_outDir (target : Int) (vmax : Nat) : (s.setMove target vmax).outDir = s.outDir := rfl
@[simp] theorem setMove_outStep (target : Int) (vmax : Nat) : (s.setMove target vmax).outStep = s.outStep := rfl
@[simp] theorem setMove_params (target : Int) (vmax : Nat) : (s.setMove target vmax).params = s.params := rfl
@[simp] theorem setMove_inputs (target : Int) (vmax : Nat) : (s.setMove target vmax).inputs = s.inputs := rfl
@[simp] theorem setMove_inbox (target : Int) (vmax : Nat) : (s.setMove target vmax).inbox = s.inbox := rfl
@[simp] theorem setMove_homing (target : Int) (vmax : Nat) : (s.setMove target vmax).homing = s.homing := rfl
@[simp] theorem setMove_result (target : Int) (vmax : Nat) : (s.setMove target vmax).result = s.result := rfl
@[simp] theorem setMove_trace (target : Int) (vmax : Nat) : (s.setMove target vmax).trace = s.trace := rfl

/-! ### `State.launch` -/

@[simp] theorem launch_state (op : Instr) : (s.launch op).state = .running := rfl
@[simp] theorem launch_homed (op : Instr) : (s.launch op).homed = s.homed := rfl
@[simp] theorem launch_absolutePosition (op : Instr) : (s.launch op).absolutePosition = s.absolutePosition := rfl
@[simp] theorem launch_deltaPosition (op : Instr) : (s.launch op).deltaPosition = 0 := rfl
@[simp] theorem launch_targetPosition (op : Instr) : (s.launch op).targetPosition = s.targetPosition := rfl
@[simp] theorem launch_totalSteps (op : Instr) : (s.launch op).totalSteps = s.totalSteps := rfl
@[simp] theorem launch_stepIncrement (op : Instr) : (s.launch op).stepIncrement = StepIncrement.ofDistance (s.targetPosition - s.absolutePosition) := rfl
@[simp] theorem launch_lowerLimit (op : Instr) : (s.launch op).lowerLimit = s.lowerLimit := rfl
@[simp] theorem launch_upperLimit (op : Instr) : (s.launch op).upperLimit = s.upperLimit := rfl
@[simp] theorem launch_velocity (op : Instr) : (s.launch op).velocity = s.velocity := rfl
@[simp] theorem launch_velocityIncrement (op : Instr) : (s.launch op).velocityIncrement = s.velocityIncrement := rfl
@[simp] theorem launch_maxVelocity (op : Instr) : (s.launch op).maxVelocity = s.maxVelocity := rfl
@[simp] theorem launch_rampSteps (op : Instr) : (s.launch op).rampSteps = s.rampSteps := rfl
@[simp] theorem launch_rampDownStep (op : Instr) : (s.launch op).rampDownStep = s.rampDownStep := rfl
@[simp] theorem launch_nextStepDeadline (op : Instr) : (s.launch op).nextStepDeadline = s.inputs.now.toNat + s.params.tGuardUs := rfl
@[simp] theorem launch_outEn (op : Instr) : (s.launch op).outEn = s.outEn := rfl
@[simp] theorem launch_outDir (op : Instr) : (s.launch op).outDir = (StepIncrement.ofDistance (s.targetPosition - s.absolutePosition)).dir := rfl
@[simp] theorem launch_outStep (op : Instr) : (s.launch op).outStep = s.outStep := rfl
@[simp] theorem launch_params (op : Instr) : (s.launch op).params = s.params := rfl
@[simp] theorem launch_inputs (op : Instr) : (s.launch op).inputs = s.inputs := rfl
@[simp] theorem launch_inbox (op : Instr) : (s.launch op).inbox = s.inbox := rfl
@[simp] theorem launch_homing (op : Instr) : (s.launch op).homing = s.homing := rfl
@[simp] theorem launch_result (op : Instr) : (s.launch op).result = s.result := rfl
@[simp] theorem launch_trace (op : Instr) : (s.launch op).trace = s.trace ++ [{ op := op, now := some s.inputs.now, event := .dirWrite (StepIncrement.ofDistance (s.targetPosition - s.absolutePosition)).dir }] := rfl

/-! ### `State.takeSample` -/

@[simp] theorem takeSample_state : (s.takeSample).state = s.state := rfl
@[simp] theorem takeSample_homed : (s.takeSample).homed = s.homed := rfl
@[simp] theorem takeSample_absolutePosition : (s.takeSample).absolutePosition = s.absolutePosition := rfl
@[simp] theorem takeSample_deltaPosition : (s.takeSample).deltaPosition = s.deltaPosition := rfl
@[simp] theorem takeSample_targetPosition : (s.takeSample).targetPosition = s.targetPosition := rfl
@[simp] theorem takeSample_totalSteps : (s.takeSample).totalSteps = s.totalSteps := rfl
@[simp] theorem takeSample_stepIncrement : (s.takeSample).stepIncrement = s.stepIncrement := rfl
@[simp] theorem takeSample_lowerLimit : (s.takeSample).lowerLimit = s.lowerLimit := rfl
@[simp] theorem takeSample_upperLimit : (s.takeSample).upperLimit = s.upperLimit := rfl
@[simp] theorem takeSample_velocity : (s.takeSample).velocity = s.velocity := rfl
@[simp] theorem takeSample_velocityIncrement : (s.takeSample).velocityIncrement = s.velocityIncrement := rfl
@[simp] theorem takeSample_maxVelocity : (s.takeSample).maxVelocity = s.maxVelocity := rfl
@[simp] theorem takeSample_rampSteps : (s.takeSample).rampSteps = s.rampSteps := rfl
@[simp] theorem takeSample_rampDownStep : (s.takeSample).rampDownStep = s.rampDownStep := rfl
@[simp] theorem takeSample_nextStepDeadline : (s.takeSample).nextStepDeadline = s.nextStepDeadline := rfl
@[simp] theorem takeSample_outEn : (s.takeSample).outEn = s.outEn := rfl
@[simp] theorem takeSample_outDir : (s.takeSample).outDir = s.outDir := rfl
@[simp] theorem takeSample_outStep : (s.takeSample).outStep = s.outStep := rfl
@[simp] theorem takeSample_params : (s.takeSample).params = s.params := rfl
@[simp] theorem takeSample_inputs : (s.takeSample).inputs = { s.inputs with lls := s.inputs.lls.tail } := rfl
@[simp] theorem takeSample_inbox : (s.takeSample).inbox = s.inbox := rfl
@[simp] theorem takeSample_homing : (s.takeSample).homing = s.homing := rfl
@[simp] theorem takeSample_result : (s.takeSample).result = s.result := rfl
@[simp] theorem takeSample_trace : (s.takeSample).trace = s.trace := rfl

/-! ### `State.homingStart` -/

@[simp] theorem homingStart_state : (s.homingStart).state = s.state := rfl
@[simp] theorem homingStart_homed : (s.homingStart).homed = s.homed := rfl
@[simp] theorem homingStart_absolutePosition : (s.homingStart).absolutePosition = s.absolutePosition := rfl
@[simp] theorem homingStart_deltaPosition : (s.homingStart).deltaPosition = s.deltaPosition := rfl
@[simp] theorem homingStart_targetPosition : (s.homingStart).targetPosition = s.targetPosition := rfl
@[simp] theorem homingStart_totalSteps : (s.homingStart).totalSteps = s.totalSteps := rfl
@[simp] theorem homingStart_stepIncrement : (s.homingStart).stepIncrement = s.stepIncrement := rfl
@[simp] theorem homingStart_lowerLimit : (s.homingStart).lowerLimit = s.lowerLimit := rfl
@[simp] theorem homingStart_upperLimit : (s.homingStart).upperLimit = s.upperLimit := rfl
@[simp] theorem homingStart_velocity : (s.homingStart).velocity = s.velocity := rfl
@[simp] theorem homingStart_velocityIncrement : (s.homingStart).velocityIncrement = s.velocityIncrement := rfl
@[simp] theorem homingStart_maxVelocity : (s.homingStart).maxVelocity = s.maxVelocity := rfl
@[simp] theorem homingStart_rampSteps : (s.homingStart).rampSteps = s.rampSteps := rfl
@[simp] theorem homingStart_rampDownStep : (s.homingStart).rampDownStep = s.rampDownStep := rfl
@[simp] theorem homingStart_nextStepDeadline : (s.homingStart).nextStepDeadline = s.nextStepDeadline := rfl
@[simp] theorem homingStart_outEn : (s.homingStart).outEn = s.outEn := rfl
@[simp] theorem homingStart_outDir : (s.homingStart).outDir = .rev := rfl
@[simp] theorem homingStart_outStep : (s.homingStart).outStep = s.outStep := rfl
@[simp] theorem homingStart_params : (s.homingStart).params = s.params := rfl
@[simp] theorem homingStart_inputs : (s.homingStart).inputs = s.inputs := rfl
@[simp] theorem homingStart_inbox : (s.homingStart).inbox = s.inbox := rfl
@[simp] theorem homingStart_homing : (s.homingStart).homing = some .seek := rfl
@[simp] theorem homingStart_result : (s.homingStart).result = s.result := rfl
@[simp] theorem homingStart_trace : (s.homingStart).trace = s.trace ++ [{ op := .fh, now := some s.inputs.now, event := .dirWrite .rev }] := rfl

/-! ### `State.commitStep` -/

@[simp] theorem commitStep_state : (s.commitStep).state = s.state := rfl
@[simp] theorem commitStep_homed : (s.commitStep).homed = s.homed := rfl
@[simp] theorem commitStep_absolutePosition : (s.commitStep).absolutePosition = s.candidate := rfl
@[simp] theorem commitStep_deltaPosition : (s.commitStep).deltaPosition = s.deltaPosition + s.stepIncrement.toInt := rfl
@[simp] theorem commitStep_targetPosition : (s.commitStep).targetPosition = s.targetPosition := rfl
@[simp] theorem commitStep_totalSteps : (s.commitStep).totalSteps = s.totalSteps := rfl
@[simp] theorem commitStep_stepIncrement : (s.commitStep).stepIncrement = s.stepIncrement := rfl
@[simp] theorem commitStep_lowerLimit : (s.commitStep).lowerLimit = s.lowerLimit := rfl
@[simp] theorem commitStep_upperLimit : (s.commitStep).upperLimit = s.upperLimit := rfl
@[simp] theorem commitStep_velocity : (s.commitStep).velocity = s.velocity := rfl
@[simp] theorem commitStep_velocityIncrement : (s.commitStep).velocityIncrement = s.velocityIncrement := rfl
@[simp] theorem commitStep_maxVelocity : (s.commitStep).maxVelocity = s.maxVelocity := rfl
@[simp] theorem commitStep_rampSteps : (s.commitStep).rampSteps = s.rampSteps := rfl
@[simp] theorem commitStep_rampDownStep : (s.commitStep).rampDownStep = s.rampDownStep := rfl
@[simp] theorem commitStep_nextStepDeadline : (s.commitStep).nextStepDeadline = s.nextStepDeadline := rfl
@[simp] theorem commitStep_outEn : (s.commitStep).outEn = s.outEn := rfl
@[simp] theorem commitStep_outDir : (s.commitStep).outDir = s.outDir := rfl
@[simp] theorem commitStep_outStep : (s.commitStep).outStep = .inactive := rfl
@[simp] theorem commitStep_params : (s.commitStep).params = s.params := rfl
@[simp] theorem commitStep_inputs : (s.commitStep).inputs = s.inputs := rfl
@[simp] theorem commitStep_inbox : (s.commitStep).inbox = s.inbox := rfl
@[simp] theorem commitStep_homing : (s.commitStep).homing = s.homing := rfl
@[simp] theorem commitStep_result : (s.commitStep).result = s.result := rfl
@[simp] theorem commitStep_trace : (s.commitStep).trace = s.trace ++ [{ op := .poll, now := some s.inputs.now, event := .stepPulse s.stepIncrement }] := rfl

/-! ### `State.scheduleNext` -/

@[simp] theorem scheduleNext_state : (s.scheduleNext).state = s.state := rfl
@[simp] theorem scheduleNext_homed : (s.scheduleNext).homed = s.homed := rfl
@[simp] theorem scheduleNext_absolutePosition : (s.scheduleNext).absolutePosition = s.absolutePosition := rfl
@[simp] theorem scheduleNext_deltaPosition : (s.scheduleNext).deltaPosition = s.deltaPosition := rfl
@[simp] theorem scheduleNext_targetPosition : (s.scheduleNext).targetPosition = s.targetPosition := rfl
@[simp] theorem scheduleNext_totalSteps : (s.scheduleNext).totalSteps = s.totalSteps := rfl
@[simp] theorem scheduleNext_stepIncrement : (s.scheduleNext).stepIncrement = s.stepIncrement := rfl
@[simp] theorem scheduleNext_lowerLimit : (s.scheduleNext).lowerLimit = s.lowerLimit := rfl
@[simp] theorem scheduleNext_upperLimit : (s.scheduleNext).upperLimit = s.upperLimit := rfl
@[simp] theorem scheduleNext_velocity : (s.scheduleNext).velocity = s.flooredVelocity := rfl
@[simp] theorem scheduleNext_velocityIncrement : (s.scheduleNext).velocityIncrement = s.velocityIncrement := rfl
@[simp] theorem scheduleNext_maxVelocity : (s.scheduleNext).maxVelocity = s.maxVelocity := rfl
@[simp] theorem scheduleNext_rampSteps : (s.scheduleNext).rampSteps = s.rampSteps := rfl
@[simp] theorem scheduleNext_rampDownStep : (s.scheduleNext).rampDownStep = s.rampDownStep := rfl
@[simp] theorem scheduleNext_nextStepDeadline : (s.scheduleNext).nextStepDeadline = s.nextStepDeadline + stepInterval s.flooredVelocity := rfl
@[simp] theorem scheduleNext_outEn : (s.scheduleNext).outEn = s.outEn := rfl
@[simp] theorem scheduleNext_outDir : (s.scheduleNext).outDir = s.outDir := rfl
@[simp] theorem scheduleNext_outStep : (s.scheduleNext).outStep = s.outStep := rfl
@[simp] theorem scheduleNext_params : (s.scheduleNext).params = s.params := rfl
@[simp] theorem scheduleNext_inputs : (s.scheduleNext).inputs = s.inputs := rfl
@[simp] theorem scheduleNext_inbox : (s.scheduleNext).inbox = s.inbox := rfl
@[simp] theorem scheduleNext_homing : (s.scheduleNext).homing = s.homing := rfl
@[simp] theorem scheduleNext_result : (s.scheduleNext).result = s.result := rfl
@[simp] theorem scheduleNext_trace : (s.scheduleNext).trace = s.trace := rfl

/-! ### `State.planRamp`: the fields it keeps -/

@[simp] theorem planRamp_state (vmax : Nat) : (s.planRamp vmax).state = s.state := by
  unfold State.planRamp; split_ifs <;> rfl
@[simp] theorem planRamp_homed (vmax : Nat) : (s.planRamp vmax).homed = s.homed := by
  unfold State.planRamp; split_ifs <;> rfl
@[simp] theorem planRamp_absolutePosition (vmax : Nat) : (s.planRamp vmax).absolutePosition = s.absolutePosition := by
  unfold State.planRamp; split_ifs <;> rfl
@[simp] theorem planRamp_deltaPosition (vmax : Nat) : (s.planRamp vmax).deltaPosition = s.deltaPosition := by
  unfold State.planRamp; split_ifs <;> rfl
@[simp] theorem planRamp_targetPosition (vmax : Nat) : (s.planRamp vmax).targetPosition = s.targetPosition := by
  unfold State.planRamp; split_ifs <;> rfl
@[simp] theorem planRamp_totalSteps (vmax : Nat) : (s.planRamp vmax).totalSteps = s.totalSteps := by
  unfold State.planRamp; split_ifs <;> rfl
@[simp] theorem planRamp_stepIncrement (vmax : Nat) : (s.planRamp vmax).stepIncrement = s.stepIncrement := by
  unfold State.planRamp; split_ifs <;> rfl
@[simp] theorem planRamp_lowerLimit (vmax : Nat) : (s.planRamp vmax).lowerLimit = s.lowerLimit := by
  unfold State.planRamp; split_ifs <;> rfl
@[simp] theorem planRamp_upperLimit (vmax : Nat) : (s.planRamp vmax).upperLimit = s.upperLimit := by
  unfold State.planRamp; split_ifs <;> rfl
@[simp] theorem planRamp_velocityIncrement (vmax : Nat) : (s.planRamp vmax).velocityIncrement = s.velocityIncrement := by
  unfold State.planRamp; split_ifs <;> rfl
@[simp] theorem planRamp_maxVelocity (vmax : Nat) : (s.planRamp vmax).maxVelocity = s.maxVelocity := by
  unfold State.planRamp; split_ifs <;> rfl
@[simp] theorem planRamp_rampDownStep (vmax : Nat) : (s.planRamp vmax).rampDownStep = s.rampDownStep := by
  unfold State.planRamp; split_ifs <;> rfl
@[simp] theorem planRamp_nextStepDeadline (vmax : Nat) : (s.planRamp vmax).nextStepDeadline = s.nextStepDeadline := by
  unfold State.planRamp; split_ifs <;> rfl
@[simp] theorem planRamp_outEn (vmax : Nat) : (s.planRamp vmax).outEn = s.outEn := by
  unfold State.planRamp; split_ifs <;> rfl
@[simp] theorem planRamp_outDir (vmax : Nat) : (s.planRamp vmax).outDir = s.outDir := by
  unfold State.planRamp; split_ifs <;> rfl
@[simp] theorem planRamp_outStep (vmax : Nat) : (s.planRamp vmax).outStep = s.outStep := by
  unfold State.planRamp; split_ifs <;> rfl
@[simp] theorem planRamp_params (vmax : Nat) : (s.planRamp vmax).params = s.params := by
  unfold State.planRamp; split_ifs <;> rfl
@[simp] theorem planRamp_inputs (vmax : Nat) : (s.planRamp vmax).inputs = s.inputs := by
  unfold State.planRamp; split_ifs <;> rfl
@[simp] theorem planRamp_inbox (vmax : Nat) : (s.planRamp vmax).inbox = s.inbox := by
  unfold State.planRamp; split_ifs <;> rfl
@[simp] theorem planRamp_homing (vmax : Nat) : (s.planRamp vmax).homing = s.homing := by
  unfold State.planRamp; split_ifs <;> rfl
@[simp] theorem planRamp_result (vmax : Nat) : (s.planRamp vmax).result = s.result := by
  unfold State.planRamp; split_ifs <;> rfl
@[simp] theorem planRamp_trace (vmax : Nat) : (s.planRamp vmax).trace = s.trace := by
  unfold State.planRamp; split_ifs <;> rfl

/-! ### `State.planShape`: the fields it keeps -/

@[simp] theorem planShape_state : (s.planShape).state = s.state := by
  unfold State.planShape; split_ifs <;> rfl
@[simp] theorem planShape_homed : (s.planShape).homed = s.homed := by
  unfold State.planShape; split_ifs <;> rfl
@[simp] theorem planShape_absolutePosition : (s.planShape).absolutePosition = s.absolutePosition := by
  unfold State.planShape; split_ifs <;> rfl
@[simp] theorem planShape_deltaPosition : (s.planShape).deltaPosition = s.deltaPosition := by
  unfold State.planShape; split_ifs <;> rfl
@[simp] theorem planShape_targetPosition : (s.planShape).targetPosition = s.targetPosition := by
  unfold State.planShape; split_ifs <;> rfl
@[simp] theorem planShape_totalSteps : (s.planShape).totalSteps = s.totalSteps := by
  unfold State.planShape; split_ifs <;> rfl
@[simp] theorem planShape_stepIncrement : (s.planShape).stepIncrement = s.stepIncrement := by
  unfold State.planShape; split_ifs <;> rfl
@[simp] theorem planShape_lowerLimit : (s.planShape).lowerLimit = s.lowerLimit := by
  unfold State.planShape; split_ifs <;> rfl
@[simp] theorem planShape_upperLimit : (s.planShape).upperLimit = s.upperLimit := by
  unfold State.planShape; split_ifs <;> rfl
@[simp] theorem planShape_velocity : (s.planShape).velocity = s.velocity := by
  unfold State.planShape; split_ifs <;> rfl
@[simp] theorem planShape_velocityIncrement : (s.planShape).velocityIncrement = s.velocityIncrement := by
  unfold State.planShape; split_ifs <;> rfl
@[simp] theorem planShape_maxVelocity : (s.planShape).maxVelocity = s.maxVelocity := by
  unfold State.planShape; split_ifs <;> rfl
@[simp] theorem planShape_nextStepDeadline : (s.planShape).nextStepDeadline = s.nextStepDeadline := by
  unfold State.planShape; split_ifs <;> rfl
@[simp] theorem planShape_outEn : (s.planShape).outEn = s.outEn := by
  unfold State.planShape; split_ifs <;> rfl
@[simp] theorem planShape_outDir : (s.planShape).outDir = s.outDir := by
  unfold State.planShape; split_ifs <;> rfl
@[simp] theorem planShape_outStep : (s.planShape).outStep = s.outStep := by
  unfold State.planShape; split_ifs <;> rfl
@[simp] theorem planShape_params : (s.planShape).params = s.params := by
  unfold State.planShape; split_ifs <;> rfl
@[simp] theorem planShape_inputs : (s.planShape).inputs = s.inputs := by
  unfold State.planShape; split_ifs <;> rfl
@[simp] theorem planShape_inbox : (s.planShape).inbox = s.inbox := by
  unfold State.planShape; split_ifs <;> rfl
@[simp] theorem planShape_homing : (s.planShape).homing = s.homing := by
  unfold State.planShape; split_ifs <;> rfl
@[simp] theorem planShape_result : (s.planShape).result = s.result := by
  unfold State.planShape; split_ifs <;> rfl
@[simp] theorem planShape_trace : (s.planShape).trace = s.trace := by
  unfold State.planShape; split_ifs <;> rfl

end Sys2Proof.Machine
end

