-- ==== Sys2Proof/Laws/Ops.lean ====
section
/-! SUPPORT. One lemma per shared operation that says once what it can do, for proofs to cite where they would unfold
it: presenting, planning and arming a move, scheduling a step, the homing loops, the step. -/

namespace Sys2Proof.Machine

/-! ### Arming a move -/

/-- The ramp and the start velocity as one update of two fields. -/
theorem planRamp_eq (s : State) (vmax : Nat) : s.planRamp vmax = { s with
    rampSteps := if s.velocityIncrement = 0 then 0 else vmax / s.velocityIncrement
    velocity := if s.velocityIncrement = 0 ∨ vmax / s.velocityIncrement = 0 then (vmax : Int) else 0 } := by
  unfold State.planRamp
  by_cases h1 : s.velocityIncrement = 0
  · simp [h1]
  · by_cases h2 : vmax / s.velocityIncrement = 0
    · rw [if_neg h1, if_pos h2, if_neg h1, if_pos (.inr h2), h2]
    · rw [if_neg h1, if_neg h2, if_neg h1, if_neg (not_or.2 ⟨h1, h2⟩)]

/-- The shape of the profile as one update of two fields. -/
theorem planShape_eq (s : State) : s.planShape = { s with
    rampSteps := if s.totalSteps > 2 * s.rampSteps then s.rampSteps else s.totalSteps / 2
    rampDownStep := if s.totalSteps > 2 * s.rampSteps then s.totalSteps - s.rampSteps else s.totalSteps / 2 } := by
  unfold State.planShape
  split_ifs <;> simp_all

/-- Every plan has its ramps inside the move. -/
theorem planShape_order (s : State) :
    s.planShape.rampSteps ≤ s.planShape.rampDownStep ∧ s.planShape.rampDownStep ≤ s.totalSteps ∧
      s.planShape.rampSteps ≤ s.rampSteps := by
  rw [planShape_eq]
  simp only
  split_ifs <;> omega

/-- A move to where the motor is ends with the plan written. -/
theorem arm_here (s : State) (op : Instr) (vmax : Nat) :
    s.arm op s.absolutePosition vmax =
      (((s.setMove s.absolutePosition vmax).planRamp vmax).planShape).reply .empty := by
  unfold State.arm
  exact if_pos rfl

/-- Any other move is launched. -/
theorem arm_away (s : State) (op : Instr) (target : Int) (vmax : Nat) (h : target ≠ s.absolutePosition) :
    s.arm op target vmax =
      ((((s.setMove target vmax).planRamp vmax).planShape).launch op).reply .empty := by
  unfold State.arm
  exact if_neg h

/-- The sign of a distance that is not zero. -/
theorem ofDistance_cases (d : Int) (h : d ≠ 0) :
    (0 < d ∧ StepIncrement.ofDistance d = .plus) ∨ (d < 0 ∧ StepIncrement.ofDistance d = .minus) := by
  unfold StepIncrement.ofDistance
  rcases lt_or_gt_of_ne h with h | h
  · exact .inr ⟨h, if_neg (by omega)⟩
  · exact .inl ⟨h, if_pos h⟩

/-- A step increment is one step one way or the other. -/
theorem toInt_cases (d : StepIncrement) : d.toInt = 1 ∨ d.toInt = -1 := by
  cases d <;> simp [StepIncrement.toInt]

/-- `arm` behind the state test: it arms, or it replies and does nothing. -/
theorem armIfEnabled_cases (s : State) (op : Instr) (target : Int) (vmax : Nat) :
    (s.state = .enabled ∧ s.armIfEnabled op target vmax = s.arm op target vmax) ∨
      (s.state ≠ .enabled ∧ s.armIfEnabled op target vmax = s.reply .empty) := by
  unfold State.armIfEnabled
  split_ifs with h
  · exact .inl ⟨h, rfl⟩
  · exact .inr ⟨h, rfl⟩

/-- `arm` at the held velocity: it arms, or it replies and does nothing. -/
theorem armAtHeldVelocity_cases (s : State) (op : Instr) (target : Int) :
    (s.state = .enabled ∧ s.maxVelocity ≠ 0 ∧ s.armAtHeldVelocity op target = s.arm op target s.maxVelocity) ∨
      (¬ (s.state = .enabled ∧ s.maxVelocity ≠ 0) ∧ s.armAtHeldVelocity op target = s.reply .empty) := by
  unfold State.armAtHeldVelocity
  split_ifs with h
  · exact .inl ⟨h.1, h.2, rfl⟩
  · exact .inr ⟨h, rfl⟩

/-- No entry of the ramp table is above the constant it is made from. -/
theorem vinc_le (p : Params) (r : Nat) : p.vinc r ≤ p.kRamp := by
  unfold Params.vinc
  split_ifs
  · exact Nat.zero_le _
  · exact Nat.div_le_self _ _

/-! ### Scheduling a step -/

/-- After the floor the velocity is at least one step per second. -/
theorem flooredVelocity_pos (s : State) : 1 ≤ s.flooredVelocity := by
  unfold State.flooredVelocity
  split_ifs <;> omega

/-- No step interval is longer than a second. -/
theorem stepInterval_le (v : Int) : stepInterval v ≤ 1000000 := Nat.div_le_self _ _

/-- The step of a poll adds one to the steps taken. -/
theorem commitStep_stepsTaken (s : State) : s.commitStep.stepsTaken = s.stepsTaken + 1 := by
  rcases toInt_cases s.stepIncrement with h | h
  · simp [State.commitStep, State.stepsTaken, State.pulse, State.emit, h]
  · simp [State.commitStep, State.stepsTaken, State.pulse, State.emit, h]; omega

/-- After the commit: a switch ends the move, the target ends it, or the next step is scheduled. -/
theorem afterStep_cases (s : State) :
    (s.LowerSwitchTrips ∧ s.afterStep = s.endMove .limitLower) ∨
      (¬ s.LowerSwitchTrips ∧ s.UpperSwitchTrips ∧ s.afterStep = s.endMove .limitUpper) ∨
      (¬ s.LowerSwitchTrips ∧ ¬ s.UpperSwitchTrips ∧ s.absolutePosition = s.targetPosition ∧
        s.afterStep = s.endMove .complete) ∨
      (¬ s.LowerSwitchTrips ∧ ¬ s.UpperSwitchTrips ∧ s.absolutePosition ≠ s.targetPosition ∧
        s.afterStep = s.scheduleNext.signal .stepped) := by
  unfold State.afterStep
  split_ifs with h1 h2 h3
  · exact .inl ⟨h1, rfl⟩
  · exact .inr (.inl ⟨h1, h2, rfl⟩)
  · exact .inr (.inr (.inl ⟨h1, h2, h3, rfl⟩))
  · exact .inr (.inr (.inr ⟨h1, h2, h3, rfl⟩))

/-! ### The remaining-time estimate -/

@[simp] theorem estimate_formula (a : RemTimeArgs) : RemTime.estimate .formula a = remTimeFormula a := rfl

@[simp] theorem estimate_other (id : Nat) (a : RemTimeArgs) :
    RemTime.estimate (.other id) a = Config.otherRemTime id a := rfl

/-- The estimate of a state reads the fields of the record and the parameter alone. -/
theorem remTime_congr (s t : State) (hp : s.params.remTime = t.params.remTime) (ha : s.remTimeArgs = t.remTimeArgs) :
    s.remTime = t.remTime := by
  unfold State.remTime
  rw [hp, ha]

/-! ### The homing loops -/

/-- The seek loop goes on. -/
theorem homingIteration_seek_clear (s : State) (h : s.homing = some .seek) (hl : s.inputs.lls.head = .clear) :
    s.homingIteration = s.takeSample.pulse .fh .minus := by
  unfold State.homingIteration; rw [h, hl]

/-- The seek loop ends: the direction turns. -/
theorem homingIteration_seek_triggered (s : State) (h : s.homing = some .seek)
    (hl : s.inputs.lls.head = .triggered) :
    s.homingIteration = ({ s.takeSample with homing := some .backOff } : State).driveDir .fh .fwd := by
  unfold State.homingIteration; rw [h, hl]

/-- The back-off loop goes on. -/
theorem homingIteration_backOff_triggered (s : State) (h : s.homing = some .backOff)
    (hl : s.inputs.lls.head = .triggered) :
    s.homingIteration = s.takeSample.pulse .fh .plus := by
  unfold State.homingIteration; rw [h, hl]

/-- The back-off loop ends: home is set and the command replies. -/
theorem homingIteration_backOff_clear (s : State) (h : s.homing = some .backOff)
    (hl : s.inputs.lls.head = .clear) :
    s.homingIteration = (({ s.takeSample with homing := none } : State).setHome).reply .empty := by
  unfold State.homingIteration; rw [h, hl]

/-- A run of an unfinished `FH` takes its next sample. -/
theorem homingRun_succ (n : Nat) (s : State) (h : s.homing ≠ none) :
    State.homingRun (n + 1) s = State.homingRun n s.homingIteration := by
  simp only [State.homingRun]
  exact if_neg h

/-- A run after the return of `FH` does nothing. -/
theorem homingRun_returned (n : Nat) (s : State) (h : s.homing = none) : State.homingRun n s = s := by
  cases n with
  | zero => rfl
  | succ n => simp only [State.homingRun]; exact if_pos h

/-- What homing leaves alone and what it can do to the rest, from one state of it to a later one. -/
structure HomingFrame (s t : State) : Prop where
  /-- The motor state stays. -/
  state : t.state = s.state
  /-- The move's parameters stay. -/
  plan : (t.targetPosition, t.totalSteps, t.stepIncrement, t.velocity, t.velocityIncrement, t.maxVelocity, t.rampSteps,
      t.rampDownStep, t.nextStepDeadline) =
    (s.targetPosition, s.totalSteps, s.stepIncrement, s.velocity, s.velocityIncrement, s.maxVelocity, s.rampSteps,
      s.rampDownStep, s.nextStepDeadline)
  /-- The limits stay. -/
  limits : t.lowerLimit = s.lowerLimit ∧ t.upperLimit = s.upperLimit
  /-- The driver line and the construction parameters stay. -/
  setting : t.outEn = s.outEn ∧ t.params = s.params
  /-- Time stands still, and nothing is presented. -/
  outside : t.inputs.now = s.inputs.now ∧ t.inbox = s.inbox
  /-- The step line is left inactive where it is pulsed. -/
  outStep : t.outStep = s.outStep ∨ t.outStep = .inactive
  /-- The positions move by the set-home operation alone. -/
  position : (t.absolutePosition = s.absolutePosition ∧ t.deltaPosition = s.deltaPosition ∧ t.homed = s.homed) ∨
    (t.absolutePosition = 0 ∧ t.deltaPosition = 0 ∧ t.homed = true)
  /-- Once returned, `FH` stays so. -/
  returned : s.homing = none → t.homing = none
  /-- The trace grows by events of this `FH`. -/
  trace : ∃ new, t.trace = s.trace ++ new ∧ ∀ e ∈ new, e.op = .fh ∧ e.now = some s.inputs.now

theorem HomingFrame.refl (s : State) : HomingFrame s s where
  state := rfl
  plan := rfl
  limits := ⟨rfl, rfl⟩
  setting := ⟨rfl, rfl⟩
  outside := ⟨rfl, rfl⟩
  outStep := .inl rfl
  position := .inl ⟨rfl, rfl, rfl⟩
  returned := id
  trace := ⟨[], (List.append_nil _).symm, fun _ h => absurd h List.not_mem_nil⟩

theorem HomingFrame.trans {s t u : State} (a : HomingFrame s t) (b : HomingFrame t u) : HomingFrame s u where
  state := b.state.trans a.state
  plan := b.plan.trans a.plan
  limits := ⟨b.limits.1.trans a.limits.1, b.limits.2.trans a.limits.2⟩
  setting := ⟨b.setting.1.trans a.setting.1, b.setting.2.trans a.setting.2⟩
  outside := ⟨b.outside.1.trans a.outside.1, b.outside.2.trans a.outside.2⟩
  outStep := by
    rcases b.outStep with h | h
    · rw [h]; exact a.outStep
    · exact .inr h
  position := by
    rcases b.position with ⟨h1, h2, h3⟩ | h
    · rw [h1, h2, h3]; exact a.position
    · exact .inr h
  returned := fun h => b.returned (a.returned h)
  trace := by
    obtain ⟨n1, e1, f1⟩ := a.trace
    obtain ⟨n2, e2, f2⟩ := b.trace
    refine ⟨n1 ++ n2, by rw [e2, e1, List.append_assoc], fun e he => ?_⟩
    rcases List.mem_append.1 he with h | h
    · exact f1 e h
    · rw [← a.outside.1]; exact f2 e h

/-- One sample of homing keeps the frame. -/
theorem homingIteration_frame (s : State) : HomingFrame s s.homingIteration := by
  unfold State.homingIteration
  split
  · constructor <;> simp_all
  · constructor <;> simp_all
  · constructor <;> simp_all
  · constructor <;> simp_all
  · exact HomingFrame.refl s

/-- Any number of samples keeps the frame. -/
theorem homingRun_frame (n : Nat) (s : State) : HomingFrame s (State.homingRun n s) := by
  induction n generalizing s with
  | zero => exact HomingFrame.refl s
  | succ n ih =>
    simp only [State.homingRun]
    split_ifs
    · exact HomingFrame.refl s
    · exact (homingIteration_frame s).trans (ih _)

/-! ### The step -/

/-- What a step can be: a sample of an unfinished `FH`, waiting, an operation, or the answer to a text that is none. -/
theorem step_cases (s : State) :
    (s.homing ≠ none ∧ step s = .next s.homingIteration) ∨
      (s.homing = none ∧ s.inbox = [] ∧ step s = .next s) ∨
      (∃ p later i, s.homing = none ∧ s.inbox = p :: later ∧ decode p.request = .ok i ∧
        step s = exec i (s.present p later)) ∨
      (∃ p later kind, s.homing = none ∧ s.inbox = p :: later ∧ decode p.request = .error kind ∧
        step s = .next ((s.present p later).protocolError kind)) := by
  unfold step
  split
  · rename_i h; exact .inl ⟨by rw [h]; exact Option.some_ne_none _, rfl⟩
  · rename_i hn
    split
    · rename_i h; exact .inr (.inl ⟨hn, h, rfl⟩)
    · rename_i p later h
      split
      · rename_i i hd; exact .inr (.inr (.inl ⟨p, later, i, hn, h, hd, rfl⟩))
      · rename_i kind hd; exact .inr (.inr (.inr ⟨p, later, kind, hn, h, hd, rfl⟩))

/-- What `withFetchWord` presents is the operation of the table word, with the inputs at the lines. -/
theorem step_withFetchWord (s : State) (nbits w : Nat) (i : Instr)
    (h : decode (.cmd (tableText nbits w)) = .ok i) :
    step (s.withFetchWord nbits w) = exec i { s with homing := none, result := .nothing } := by
  unfold step State.withFetchWord
  simp only [h]
  rfl

end Sys2Proof.Machine
end

