-- ==== Sys2Proof/Laws/PerInstr.lean ====
section
/-! SUPPORT. Statements made per operation. `TextLength`: how long a command's text is, by its format
(30_encoding.md R96, R92, R93). -/

namespace Sys2Proof.Laws.TextLength

/-- The length of a request's text; a poll and a reset have none. -/
def len : Request → Option Nat
  | .reset => none
  | .poll => none
  | .cmd text => some text.length

/-- The encoding has a length its format allows: `N` 2, `D` 3, `I` 3 to 13, `V` 7 to 17. -/
def Statement (i : Instr) : Prop :=
  match i with
  | .en | .di | .es | .fh | .sh | .rh | .rl | .ru | .ga | .gr | .gl | .gu | .gt | .gv => len (encode i) = some 2
  | .sr _ => len (encode i) = some 3
  | .sl _ | .su _ => i.WellFormed → ∃ n, len (encode i) = some n ∧ 3 ≤ n ∧ n ≤ 13
  | .ra _ _ | .rr _ _ => i.WellFormed → ∃ n, len (encode i) = some n ∧ 7 ≤ n ∧ n ≤ 17
  | .poll | .reset => len (encode i) = none

theorem en : Statement .en := rfl
theorem di : Statement .di := rfl
theorem es : Statement .es := rfl
theorem fh : Statement .fh := rfl
theorem sh : Statement .sh := rfl

/-- A code and a `sint` in 32 bits. -/
theorem sint_command (opcode : Nat) (v : Int) (h : FitsPos v) :
    ∃ n, len (commandOf opcode (renderInt v)) = some n ∧ 3 ≤ n ∧ n ≤ 13 := by
  have := renderInt_length v h
  exact ⟨_, rfl, by simp [codeBytes]; omega, by simp [codeBytes]; omega⟩

/-- A code, a velocity and a `sint` in 32 bits. -/
theorem velocity_command (opcode vel : Nat) (v : Int) (h : FitsPos v) :
    ∃ n, len (commandOf opcode (renderVel vel ++ renderInt v)) = some n ∧ 7 ≤ n ∧ n ≤ 17 := by
  have := renderInt_length v h
  exact ⟨_, rfl, by simp [codeBytes, renderVel]; omega, by simp [codeBytes, renderVel]; omega⟩

theorem sl (v : Int) : Statement (.sl v) := fun h => sint_command _ v (of_decide_eq_true h)
theorem su (v : Int) : Statement (.su v) := fun h => sint_command _ v (of_decide_eq_true h)
theorem sr (r : Nat) : Statement (.sr r) := rfl
theorem ra (vel : Nat) (target : Int) : Statement (.ra vel target) :=
  fun h => velocity_command _ vel target (of_decide_eq_true h).2.2
theorem rr (vel : Nat) (count : Int) : Statement (.rr vel count) :=
  fun h => velocity_command _ vel count (of_decide_eq_true h).2.2
theorem rh : Statement .rh := rfl
theorem rl : Statement .rl := rfl
theorem ru : Statement .ru := rfl
theorem ga : Statement .ga := rfl
theorem gr : Statement .gr := rfl
theorem gl : Statement .gl := rfl
theorem gu : Statement .gu := rfl
theorem gt : Statement .gt := rfl
theorem gv : Statement .gv := rfl
theorem poll : Statement .poll := rfl
theorem reset : Statement .reset := rfl

end Sys2Proof.Laws.TextLength
end

