-- ==== Sys2Proof/Tests/Slice0.lean ====
section
/-! SUPPORT. The model's own tests. Expected values come from spec/95_test_vectors.md (the vector is named), or are
worked by hand from the rule named; the parameters are the vectors': `K_RAMP` 2520, `T_GUARD_US` 10. The witnesses at
the end show for each obligation with hypotheses a state and operands that meet them. -/

namespace Sys2Proof.Tests

open Sys2Proof.Machine Sys2Proof.Claims

/-! ## Helpers -/

/-- The parameters of the vectors, both limit switches there. -/
def bench : Params :=
  { kRamp := 2520, rampReset := 0, tGuardUs := 10, tPulseUs := 3, tHomeUs := 500,
    polEn := false, polDir := true, polStep := true, polLls := false, polUls := false,
    llsConfigured := true, ulsConfigured := true, remTime := .formula }

/-- After `RESET`. -/
def fresh : State := State.construct bench

/-- After `EN`, at position `pos`, the ramp increment `inc`. -/
def ready (pos : Int) (inc : Nat) : State :=
  { fresh with state := .enabled, homed := true, outEn := .active, absolutePosition := pos, velocityIncrement := inc }

/-- Samples of a switch: those listed, then `rest`. -/
def samples (script : List SwitchLevel) (rest : SwitchLevel) : SampleStream := { script := script, rest := rest }

/-- Inputs at time `t` with clear switches. -/
def quietAt (t : Time) : Inputs := { now := t, lls := samples [] .clear, uls := .clear }

/-- Inputs at time `t` with the given switch levels. -/
def switchesAt (t : Time) (lls uls : SwitchLevel) : Inputs := { now := t, lls := samples [] lls, uls := uls }

/-- The state an operation leaves. -/
def after (i : Instr) (s : State) : State :=
  match exec i s with
  | .next t => t
  | .fault _ => s
  | .refused _ => s

/-- `after` with the inputs of the operation at time `t`. -/
def afterAt (i : Instr) (t : Time) (s : State) : State := after i { s with inputs := quietAt t }

/-- A move in progress at full speed: from `pos` to `target`, cruise velocity 1000, no ramp, `taken` steps done,
the deadline at `due`. -/
def moving (pos target : Int) (d : StepIncrement) (total taken due : Nat) : State :=
  { ready pos 0 with
    state := .running, targetPosition := target, totalSteps := total, stepIncrement := d, outDir := d.dir
    deltaPosition := d.toInt * taken, velocity := 1000, maxVelocity := 1000, rampSteps := 0, rampDownStep := total
    nextStepDeadline := due, inputs := quietAt (BitVec.ofNat 64 due) }

/-! ## Well-formedness: an ill-formed term for each check -/

theorem test_wf_refuses_lower_limit_beyond_32_bits : ¬ (Instr.sl (-2147483649)).WellFormed := by decide
theorem test_wf_refuses_upper_limit_beyond_32_bits : ¬ (Instr.su 2147483648).WellFormed := by decide
theorem test_wf_refuses_ramp_factor_ten : ¬ (Instr.sr 10).WellFormed := by decide
theorem test_wf_refuses_velocity_zero : ¬ (Instr.ra 0 5).WellFormed ∧ ¬ (Instr.rr 0 5).WellFormed := by decide
theorem test_wf_refuses_velocity_of_five_digits :
    ¬ (Instr.ra 10000 5).WellFormed ∧ ¬ (Instr.rr 10000 5).WellFormed := by decide
theorem test_wf_refuses_target_beyond_32_bits :
    ¬ (Instr.ra 1 2147483648).WellFormed ∧ ¬ (Instr.rr 1 (-2147483649)).WellFormed := by decide
theorem test_wf_takes_the_extremes :
    (Instr.sl (-2147483648)).WellFormed ∧ (Instr.su 2147483647).WellFormed ∧ (Instr.sr 9).WellFormed ∧
      (Instr.ra 9999 2147483647).WellFormed ∧ (Instr.rr 1 (-2147483648)).WellFormed := by decide

/-! ## Decoding: every code's bytes, written out from S12 -/

theorem test_decode_EN : decode (.cmd [0x45, 0x4E]) = .ok .en := by rfl
theorem test_decode_DI : decode (.cmd [0x44, 0x49]) = .ok .di := by rfl
theorem test_decode_ES : decode (.cmd [0x45, 0x53]) = .ok .es := by rfl
theorem test_decode_FH : decode (.cmd [0x46, 0x48]) = .ok .fh := by rfl
theorem test_decode_SH : decode (.cmd [0x53, 0x48]) = .ok .sh := by rfl
theorem test_decode_SL : decode (.cmd [0x53, 0x4C, 0x2D, 0x35, 0x30, 0x30]) = .ok (.sl (-500)) := by rfl
theorem test_decode_SU : decode (.cmd [0x53, 0x55, 0x35, 0x30, 0x30]) = .ok (.su 500) := by rfl
theorem test_decode_SR : decode (.cmd [0x53, 0x52, 0x35]) = .ok (.sr 5) := by rfl
theorem test_decode_RA :
    decode (.cmd [0x52, 0x41, 0x31, 0x30, 0x30, 0x30, 0x2B, 0x32, 0x30, 0x30, 0x30]) = .ok (.ra 1000 2000) := by rfl
theorem test_decode_RR :
    decode (.cmd [0x52, 0x52, 0x30, 0x32, 0x35, 0x30, 0x2D, 0x34, 0x30]) = .ok (.rr 250 (-40)) := by rfl
theorem test_decode_RH : decode (.cmd [0x52, 0x48]) = .ok .rh := by rfl
theorem test_decode_RL : decode (.cmd [0x52, 0x4C]) = .ok .rl := by rfl
theorem test_decode_RU : decode (.cmd [0x52, 0x55]) = .ok .ru := by rfl
theorem test_decode_GA : decode (.cmd [0x47, 0x41]) = .ok .ga := by rfl
theorem test_decode_GR : decode (.cmd [0x47, 0x52]) = .ok .gr := by rfl
theorem test_decode_GL : decode (.cmd [0x47, 0x4C]) = .ok .gl := by rfl
theorem test_decode_GU : decode (.cmd [0x47, 0x55]) = .ok .gu := by rfl
theorem test_decode_GT : decode (.cmd [0x47, 0x54]) = .ok .gt := by rfl
theorem test_decode_GV : decode (.cmd [0x47, 0x56]) = .ok .gv := by rfl
theorem test_decode_POLL : decode .poll = .ok .poll := by rfl
theorem test_decode_RESET : decode .reset = .ok .reset := by rfl

/-- `RA10005`: the sign is optional (V-Q4). -/
theorem test_decode_RA_without_sign :
    decode (.cmd [0x52, 0x41, 0x31, 0x30, 0x30, 0x30, 0x35]) = .ok (.ra 1000 5) := by rfl

/-- `SL-2147483648`, the smallest value (V-M6). -/
theorem test_decode_smallest_limit :
    decode (.cmd [0x53, 0x4C, 0x2D, 0x32, 0x31, 0x34, 0x37, 0x34, 0x38, 0x33, 0x36, 0x34, 0x38]) =
      .ok (.sl (-2147483648)) := by rfl

/-- V-Q4: too short, unknown codes (one of them by its case), bytes after the last field. -/
theorem test_errors_of_the_code :
    decodeText [] = .error .tooShort ∧ decodeText [0x45] = .error .tooShort ∧
      decodeText [0x65, 0x6E] = .error .unknownCode ∧ decodeText [0x58, 0x58] = .error .unknownCode ∧
      decodeText [0x45, 0x4E, 0x20] = .error .missingArg ∧ decodeText [0x47, 0x41, 0x31] = .error .missingArg := by
  refine ⟨?_, ?_, ?_, ?_, ?_, ?_⟩ <;> rfl

/-- V-Q4: `SR`, `SRA`, `SR10`, `SR-1`. -/
theorem test_errors_of_the_ramp_digit :
    decodeText [0x53, 0x52] = .error .missingArg ∧ decodeText [0x53, 0x52, 0x41] = .error .range ∧
      decodeText [0x53, 0x52, 0x31, 0x30] = .error .range ∧ decodeText [0x53, 0x52, 0x2D, 0x31] = .error .range := by
  refine ⟨?_, ?_, ?_, ?_⟩ <;> rfl

/-- V-Q4: `SL`, `SL+`, eleven digits, ten digits outside 32 bits. -/
theorem test_errors_of_a_limit :
    decodeText [0x53, 0x4C] = .error .missingArg ∧ decodeText [0x53, 0x4C, 0x2B] = .error .missingArg ∧
      decodeText [0x53, 0x4C, 0x31, 0x32, 0x33, 0x34, 0x35, 0x36, 0x37, 0x38, 0x39, 0x30, 0x31] = .error .missingArg ∧
      decodeText [0x53, 0x4C, 0x32, 0x31, 0x34, 0x37, 0x34, 0x38, 0x33, 0x36, 0x34, 0x38] = .error .range := by
  refine ⟨?_, ?_, ?_, ?_⟩ <;> rfl

/-- V-Q4: `RA1000`, `RA100+5`, `RA1000 5`, `RA+100+5`, `RA0000+5`. -/
theorem test_errors_of_a_rotate :
    decodeText [0x52, 0x41, 0x31, 0x30, 0x30, 0x30] = .error .missingArg ∧
      decodeText [0x52, 0x41, 0x31, 0x30, 0x30, 0x2B, 0x35] = .error .missingArg ∧
      decodeText [0x52, 0x41, 0x31, 0x30, 0x30, 0x30, 0x20, 0x35] = .error .missingArg ∧
      decodeText [0x52, 0x41, 0x2B, 0x31, 0x30, 0x30, 0x2B, 0x35] = .error .missingArg ∧
      decodeText [0x52, 0x41, 0x30, 0x30, 0x30, 0x30, 0x2B, 0x35] = .error .range := by
  refine ⟨?_, ?_, ?_, ?_, ?_⟩ <;> rfl

/-- The table words of the codes that take fields (log entry 12). -/
theorem test_table_words :
    decodeTableWord 16 0x454E = some .en ∧ decodeTableWord 16 0x534C = some (.sl 0) ∧
      decodeTableWord 16 0x5352 = some (.sr 0) ∧ decodeTableWord 16 0x5241 = some (.ra 1 0) ∧
      decodeTableWord 16 0x656E = none := by
  refine ⟨?_, ?_, ?_, ?_, ?_⟩ <;> rfl

/-- `-500` and `0` as `GL` and `GR` reply them (S8, V-Q1). -/
theorem test_rendering :
    renderInt (-500) = [0x2D, 0x35, 0x30, 0x30] ∧ renderInt 0 = [0x30] ∧
      renderInt 2000000000 = [0x32, 0x30, 0x30, 0x30, 0x30, 0x30, 0x30, 0x30, 0x30, 0x30] := by decide

/-! ## Motion State commands -/

/-- V-M2: both counts go to 0, the target stays. -/
theorem test_EN_sets_home :
    let t := after .en { ready 12 0 with deltaPosition := 12, targetPosition := 12, maxVelocity := 2016 }
    (t.state, t.absolutePosition, t.deltaPosition, t.targetPosition, t.maxVelocity) =
      (.enabled, 0, 0, 12, 2016) := by decide

/-- V-M3: `EN` ends a move without a fault. -/
theorem test_EN_aborts_a_move : (after .en (moving 2 12 .plus 12 2 3986)).state = .enabled := by decide

/-- V-M4: the position count survives `DI`, the reference does not. -/
theorem test_DI_keeps_the_count :
    let t := after .di (ready 12 0)
    (t.state, t.homed, t.outEn, t.absolutePosition) = (.disabled, false, .inactive, 12) := by decide

/-- V-M5: `SH` does nothing in `RUNNING`. -/
theorem test_SH_in_a_move :
    let t := after .sh (moving (-1) (-2) .minus 2 1 1010)
    (t.absolutePosition, t.deltaPosition, t.state) = (-1, -1, .running) := by decide

/-- V-M5: `SH` sets home in `ENABLED`. -/
theorem test_SH_when_enabled : (after .sh (ready (-2) 0)).absolutePosition = 0 := by decide

/-- V-M6: `SL-100` is taken, `SL50` is dropped with an empty reply. -/
theorem test_SL_convention :
    (after (.sl (-100)) fresh).lowerLimit = -100 ∧ (after (.sl 50) fresh).lowerLimit = -2000000000 ∧
      (after (.sl 50) fresh).result = .replied .empty := by decide

/-- V-M6: `SU100` is taken, `SU-1` is dropped, `SU0` is taken. -/
theorem test_SU_convention :
    (after (.su 100) fresh).upperLimit = 100 ∧ (after (.su (-1)) fresh).upperLimit = 2000000000 ∧
      (after (.su 0) fresh).upperLimit = 0 := by decide

/-- V-M8: the whole ramp table. -/
theorem test_SR_table :
    (List.range 10).map (fun r => (after (.sr r) fresh).velocityIncrement) =
      [0, 2520, 1260, 840, 630, 504, 420, 360, 315, 280] := by decide

/-- V-M7: the lockout of `ES @3000`, position 2. -/
theorem test_ES_locks_out :
    let t := afterAt .es 3000 (moving 2 12 .plus 12 2 3986)
    (t.state, t.homed, t.targetPosition, t.outEn, t.outDir, t.absolutePosition, t.nextStepDeadline) =
      (.estopped, false, 2, .inactive, .fwd, 2, 3986) ∧
    t.trace = [⟨.es, some 3000, .stepWrite .inactive⟩, ⟨.es, some 3000, .enWrite .inactive⟩] := by decide

/-! ## Rotate commands -/

/-- V-A5: the smallest trapezoid. -/
theorem test_RA_smallest_trapezoid :
    let t := afterAt (.ra 2016 9) 0 (ready 0 504)
    (t.targetPosition, t.totalSteps, t.rampSteps, t.rampDownStep, t.velocity, t.stepIncrement, t.outDir) =
      (9, 9, 4, 5, 0, .plus, .fwd) ∧ (t.nextStepDeadline, t.state) = (10, .running) := by decide

/-- V-A10: a move of no length writes its plan and nothing else. -/
theorem test_RA_no_op :
    let t := afterAt (.ra 300 12) 50000 { ready 12 504 with deltaPosition := 12, nextStepDeadline := 77 }
    (t.maxVelocity, t.totalSteps, t.velocity, t.deltaPosition, t.nextStepDeadline, t.state) =
      (300, 0, 300, 12, 77, .enabled) ∧ t.trace = [] := by decide

/-- V-A11: the quotient 500 div 504 is 0. -/
theorem test_RR_backwards :
    let t := afterAt (.rr 500 (-5)) 0 (ready 20 504)
    (t.targetPosition, t.totalSteps, t.rampSteps, t.rampDownStep, t.velocity, t.stepIncrement, t.outDir) =
      (15, 5, 0, 5, 500, .minus, .rev) := by decide

/-- V-A12, V-A13: the sum leaves 32 bits; the state test comes first. -/
theorem test_RR_sum_out_of_range :
    (after (.rr 1000 2147483647) (ready 1 504)).result = .replied (.error .range) ∧
      (after (.rr 1000 2147483647) { fresh with absolutePosition := 1 }).result = .replied .empty := by decide

/-- `RH @30000` at −4 (41_ramp_planner.md vectors): target 0, forward. -/
theorem test_RH_goes_home :
    let t := afterAt .rh 30000 { ready (-4) 0 with maxVelocity := 1000 }
    (t.targetPosition, t.totalSteps, t.stepIncrement, t.nextStepDeadline, t.state) =
      (0, 4, .plus, 30010, .running) := by decide

/-- `RL @10000` from 6 to −4: ten steps in reverse. -/
theorem test_RL_goes_to_the_lower_limit :
    let t := afterAt .rl 10000 { ready 6 0 with lowerLimit := -4, upperLimit := 6, maxVelocity := 1000 }
    (t.targetPosition, t.totalSteps, t.outDir, t.nextStepDeadline) = (-4, 10, .rev, 10010) := by decide

/-- `RU` before any velocity was given does nothing. -/
theorem test_RU_without_a_velocity :
    let t := after .ru { ready 0 0 with upperLimit := 6 }
    (t.state, t.result, t.targetPosition) = (.enabled, .replied .empty, 0) := by decide

/-- `RU @3000` from 2 to 6 at the held velocity. -/
theorem test_RU_goes_to_the_upper_limit :
    let t := afterAt .ru 3000 { ready 2 0 with upperLimit := 6, maxVelocity := 1000 }
    (t.targetPosition, t.totalSteps, t.rampDownStep, t.velocity, t.nextStepDeadline) = (6, 4, 4, 1000, 3010) := by
  decide

/-! ## Polls -/

/-- V-P1, one microsecond early; V-P6 at 5000, 1014 µs late, the deadline built on 3986; V-P3 at 4970, the velocity
would be 0 and is floored to the increment; V-P10, an increment changed in the move counts at once. -/
theorem test_POLL_schedules :
    let early := afterAt .poll 1009 (moving 0 12 .plus 12 0 1010)
    let late := afterAt .poll 5000 { moving 2 12 .plus 12 2 3986 with
      velocity := 1008, velocityIncrement := 504, maxVelocity := 2016, rampSteps := 4, rampDownStep := 8 }
    let floor := afterAt .poll 4970 { moving (-3) (-5) .minus 5 3 4970 with
      velocity := 504, velocityIncrement := 504, maxVelocity := 2016, rampSteps := 2, rampDownStep := 2 }
    let changed := afterAt .poll 4647 { moving 3 12 .plus 12 3 4647 with
      velocity := 1512, velocityIncrement := 2520, maxVelocity := 2016, rampSteps := 4, rampDownStep := 8 }
    early.result = .polled .idle 0 ∧
      (late.result, late.velocity, late.nextStepDeadline, late.deltaPosition) = (.polled .stepped 3, 1512, 4647, 3) ∧
      (floor.result, floor.velocity, floor.nextStepDeadline) = (.polled .stepped (-4), 504, 6954) ∧
      (changed.velocity, changed.nextStepDeadline) = (4032, 4895) := by decide

/-- V-P5, one step completes with velocity 0; Program C, the candidate −6 is below −5 and there is no pulse; V-P9, the
step is committed and then the switch faults, the lower one first. -/
theorem test_POLL_ends_a_move :
    let done := afterAt .poll 10 { moving 0 1 .plus 1 0 10 with velocity := 0, rampDownStep := 0 }
    let range := afterAt .poll 5510 { moving (-5) (-8) .minus 8 5 5510 with lowerLimit := -5, upperLimit := 5 }
    let lower := after .poll { moving (-1) (-3) .minus 3 1 2010 with inputs := switchesAt 2010 .triggered .triggered }
    let upper := after .poll { moving 0 1 .plus 1 0 5010 with inputs := switchesAt 5010 .clear .triggered }
    (done.result, done.state, done.velocity, done.nextStepDeadline) = (.polled .complete 1, .enabled, 0, 10) ∧
      done.trace = [⟨.poll, some 10, .stepPulse .plus⟩] ∧
      (range.result, range.state, range.absolutePosition, range.trace) = (.polled .rangeLower (-5), .enabled, -5, []) ∧
      (lower.result, lower.deltaPosition, lower.targetPosition) = (.polled .limitLower (-2), -2, -3) ∧
      lower.nextStepDeadline = 2010 ∧ upper.result = .polled .limitUpper 1 := by decide

/-! ## Queries -/

/-- V-Q1: the queries after reset. -/
theorem test_queries_after_reset :
    (after .ga fresh).result = .replied (.number 0) ∧ (after .gr fresh).result = .replied (.number 0) ∧
      (after .gl fresh).result = .replied (.number (-2000000000)) ∧
      (after .gu fresh).result = .replied (.number 2000000000) ∧ (after .gt fresh).result = .replied (.number 0) ∧
      (after .gv fresh).result = .replied .version := by decide

/-- V-Q3: the sign of `GR`. -/
theorem test_GR_sign : (after .gr { ready (-5) 0 with deltaPosition := -5 }).result = .replied (.number (-5)) := by
  decide

/-- V-M7: `GT` with ten steps left at 2016, by the default estimate. -/
theorem test_GT_estimate :
    (after .gt { moving 2 12 .plus 12 2 3986 with maxVelocity := 2016 }).result = .replied (.number 4) := by decide

/-! ## Homing -/

/-- The state of V-H1 with a sample stream. -/
def beforeHoming (t : SampleStream) : State :=
  { ready 2 0 with
    targetPosition := 2, maxVelocity := 1000, nextStepDeadline := 1010
    inputs := { now := 5000, lls := t, uls := .clear } }

/-- V-H1; and V-H3, where `FH` does not return and every further step pulses once more. -/
theorem test_FH_seeks_and_backs_off :
    let t := after .fh (beforeHoming (samples [.clear, .clear, .clear, .triggered, .triggered, .clear] .clear))
    let u := after .fh (beforeHoming (samples [] .clear))
    (t.state, t.homed, t.absolutePosition, t.outDir, t.targetPosition, t.nextStepDeadline) =
      (.enabled, true, 0, .fwd, 2, 1010) ∧
    (t.result, t.homing) = (.replied .empty, none) ∧ t.inputs.lls.script = [] ∧
    t.trace.map TraceEntry.event = [.dirWrite .rev, .stepPulse .minus, .stepPulse .minus, .stepPulse .minus,
      .dirWrite .fwd, .stepPulse .plus] ∧
    (u.homing, u.result) = (some .seek, .nothing) ∧
    u.homingIteration.trace = u.trace ++ [⟨.fh, some 5000, .stepPulse .minus⟩] := by decide

/-- V-H4: `FH` in `RUNNING` does nothing. -/
theorem test_FH_in_a_move :
    after .fh (moving 0 4 .plus 4 0 10) = { moving 0 4 .plus 4 0 10 with result := .replied .empty } := by decide

/-! ## Reset and the step -/

/-- 10_state.md R49: `RESET` in a move; the trace so far stays. -/
theorem test_RESET_in_a_move :
    let t := after .reset { moving 2 12 .plus 12 2 3986 with trace := [⟨.poll, some 2994, .stepPulse .plus⟩] }
    (t.state, t.homed, t.absolutePosition, t.nextStepDeadline, t.outEn, t.params) =
      (.disabled, false, 0, 0, .inactive, bench) ∧
      t.trace.head? = some ⟨.poll, some 2994, .stepPulse .plus⟩ := by decide

/-- Program A, row 1: the bytes of `EN`, presented at time 0, run as a step. -/
theorem test_step_runs_a_command :
    ∃ t, step { fresh with inbox := [⟨.cmd [0x45, 0x4E], quietAt 0⟩] } = .next t ∧
      t.state = .enabled ∧ t.inbox = [] ∧ t.result = .replied .empty := ⟨_, rfl, by decide, rfl, rfl⟩

/-- The machine after reset runs the word of `EN`. -/
theorem test_step_runs_a_table_word :
    ∃ t, step (State.reset.withFetchWord 16 0x454E) = .next t ∧ t.state = .enabled ∧ t.outEn = .active :=
  ⟨_, rfl, rfl, rfl⟩

/-- 20_memory.md R63: at the port a pulse is an active level, the pulse width, and the inactive level. -/
theorem test_port_pulse :
    TraceEntry.portCalls bench ⟨.poll, some 10, .stepPulse .plus⟩ =
      [.setOutput .step true, .delayMicros 3, .setOutput .step false] := by decide

/-! ## Witnesses: the hypotheses of each obligation can be met, clause by clause -/

/-- A state of a sound controller with a move in progress from 0 to 12, nothing done yet. -/
def sound : State := { moving 0 12 .plus 12 0 10 with trace := [] }

theorem test_witness_SetHomeActsOnlyWhenEnabled : (ready 3 0).state = .enabled ∧ fresh.state ≠ .enabled := by decide

theorem test_witness_SettersTakeOnlyConventionalLimits :
    (FitsPos 0 ∧ (0 : Int) ≤ 0 ∧ 0 ≤ fresh.upperLimit ∧ fresh.lowerLimit ≤ 0) ∧
      (FitsPos 1 ∧ ¬ ((1 : Int) ≤ 0 ∧ 1 ≤ fresh.upperLimit)) ∧
      (FitsPos (-1) ∧ ¬ ((-1 : Int) ≥ 0 ∧ -1 ≥ fresh.lowerLimit)) ∧
      (FitsPos (-2147483648) ∧ -2147483648 ≤ fresh.upperLimit) ∧
      (FitsPos 2147483647 ∧ 2147483647 ≥ fresh.lowerLimit) := by decide

theorem test_witness_SetRampFactorLoadsTheTable : 9 ≤ 9 ∧ 9 < 10 := by decide

theorem test_witness_RampTableStrictlyDecreases :
    bench.Wf ∧ ({ bench with kRamp := 72 } : Params).Wf ∧ ({ bench with kRamp := 200000 } : Params).Wf ∧
      1 ≤ 8 ∧ 8 < 9 ∧ 9 ≤ 9 := by decide

/-- Locked out, `ES` presented again; and locked out with nothing presented. -/
theorem test_witness_LockoutHoldsUntilEnable :
    let s : State := { fresh with state := .estopped, inbox := [⟨.cmd [0x45, 0x53], quietAt 9⟩] }
    s.state = .estopped ∧ s.homing = none ∧
      (∀ p ∈ s.inbox.head?, decode p.request ≠ .ok .en ∧ decode p.request ≠ .ok .di ∧ decode p.request ≠ .ok .reset) ∧
      ∃ t, step s = .next t ∧ t.trace.length = 2 := by
  refine ⟨rfl, rfl, ?_, _, rfl, rfl⟩
  intro p hp
  obtain rfl : (⟨.cmd [0x45, 0x53], quietAt 9⟩ : Presented) = p := Option.some.inj hp
  have h : decode (.cmd [0x45, 0x53]) = .ok .es := rfl
  rw [h]
  exact ⟨nofun, nofun, nofun⟩

theorem test_witness_RotateWithVelocityArms :
    1 ≤ 1 ∧ 9999 ≤ 9999 ∧ FitsPos 2147483647 ∧ FitsPos (-2147483648) ∧
      ((ready 0 504).state = .enabled ∧ FitsPos ((ready 0 504).absolutePosition + 2147483647)) ∧
      ((ready 1 504).state = .enabled ∧ ¬ FitsPos ((ready 1 504).absolutePosition + 2147483647)) ∧
      fresh.state ≠ .enabled := by decide

theorem test_witness_RotateAtHeldVelocityArms :
    (let s : State := { ready 0 0 with maxVelocity := 1 }
     s.state = .enabled ∧ s.maxVelocity ≠ 0) ∧
      ¬ ((ready 0 0).state = .enabled ∧ (ready 0 0).maxVelocity ≠ 0) := by decide

/-- S2: nine steps are a trapezoid, eight a triangle. -/
theorem test_witness_EveryPlanIsATrapezoidOrATriangle :
    (Accepted (ready 0 504) (.ra 2016 9) ∧ ∃ t, exec (.ra 2016 9) (ready 0 504) = .next t ∧
      t.totalSteps > 2 * rampLength t.velocityIncrement t.maxVelocity) ∧
    (Accepted (ready 0 504) (.ra 2016 8) ∧ ∃ t, exec (.ra 2016 8) (ready 0 504) = .next t ∧
      t.totalSteps ≤ 2 * rampLength t.velocityIncrement t.maxVelocity) :=
  ⟨⟨rfl, _, rfl, by decide⟩, ⟨rfl, _, rfl, by decide⟩⟩

/-- S1: at velocity 9999, factors 1 and 9, a move of 100 steps. -/
theorem test_witness_RampLengthGrowsWithTheFactor :
    let s := ready 0 0
    s.state = .enabled ∧ s.params.Wf ∧ (100 - s.absolutePosition).natAbs > 2 * (9999 / (s.params.kRamp / 9)) ∧
      ∃ a b a' b', exec (.sr 1) s = .next a ∧ exec (.ra 9999 100) a = .next b ∧
        exec (.sr 9) s = .next a' ∧ exec (.ra 9999 100) a' = .next b' ∧ b.rampSteps = 3 ∧ b'.rampSteps = 35 :=
  ⟨by decide, by decide, by decide, _, _, _, _, rfl, rfl, rfl, rfl, by decide, by decide⟩

/-- Not homed, not running, one microsecond early. -/
theorem test_witness_PollIsIdleUnlessDue :
    (¬ fresh.Due ∧ ¬ (ready 0 0).Due ∧ ¬ ({ moving 0 4 .plus 4 0 10 with inputs := quietAt 9 } : State).Due) ∧
      (moving 0 4 .plus 4 0 10).Due := by decide

/-- Below the lower limit, above the upper one, and equal to it. -/
theorem test_witness_RangeFaultRefusesTheStep :
    (let s : State := { moving 0 1 .plus 1 0 5010 with upperLimit := 1 }
     s.Due ∧ s.lowerLimit ≤ s.upperLimit ∧ StepInRange s) ∧
    (let s : State := { moving (-5) (-8) .minus 8 5 5510 with lowerLimit := -5 }
     s.Due ∧ s.lowerLimit ≤ s.upperLimit ∧ s.absolutePosition + s.stepIncrement.toInt < s.lowerLimit) ∧
    (let s : State := { moving 2 3 .plus 3 2 2010 with upperLimit := 2 }
     s.Due ∧ s.lowerLimit ≤ s.upperLimit ∧ s.upperLimit < s.absolutePosition + s.stepIncrement.toInt) := by decide

/-- A candidate equal to a limit is in range. -/
theorem test_witness_SwitchFaultHidesCompletion :
    let s : State := { moving 0 1 .plus 1 0 5010 with upperLimit := 1 }
    (s.Due ∧ StepInRange s ∧ ¬ s.LowerSwitchTrips ∧ ¬ s.UpperSwitchTrips ∧
      s.absolutePosition + s.stepIncrement.toInt = s.targetPosition) ∧
    ({ s with inputs := switchesAt 5010 .triggered .triggered } : State).LowerSwitchTrips ∧
    (let u : State := { s with inputs := switchesAt 5010 .clear .triggered }
     u.UpperSwitchTrips ∧ ¬ u.LowerSwitchTrips) := by decide

theorem test_witness_ContinuingStepBuildsOnThePreviousDeadline :
    sound.Due ∧ StepInRange sound ∧ ¬ sound.LowerSwitchTrips ∧ ¬ sound.UpperSwitchTrips ∧
      sound.absolutePosition + sound.stepIncrement.toInt ≠ sound.targetPosition := by decide

/-- A poll that steps and one that does not. -/
theorem test_witness_PollMovesBothCountsWithItsPulse :
    (∃ t, exec .poll sound = .next t ∧ t.result = .polled .stepped 1) ∧
      ∃ t, exec .poll fresh = .next t ∧ t.result = .polled .idle 0 :=
  ⟨⟨_, rfl, by decide⟩, ⟨_, rfl, by decide⟩⟩

theorem test_witness_CommittedPositionsAreInRange :
    ∃ t, exec .poll sound = .next t ∧ t.absolutePosition ≠ sound.absolutePosition := ⟨_, rfl, by decide⟩

/-- V-P6: a poll on time and one 1014 µs late. -/
theorem test_witness_LatenessMovesNoDeadline :
    let s := moving 2 12 .plus 12 2 3986
    s.nextStepDeadline ≤ (3986 : Time).toNat ∧ s.nextStepDeadline ≤ (5000 : Time).toNat ∧
      (∃ t, exec .poll { s with inputs := { s.inputs with now := 3986 } } = .next t ∧ t.result = .polled .stepped 3) ∧
      ∃ t, exec .poll { s with inputs := { s.inputs with now := 5000 } } = .next t ∧ t.result = .polled .stepped 3 :=
  ⟨by decide, by decide, ⟨_, rfl, by decide⟩, ⟨_, rfl, by decide⟩⟩

/-- Two steps at 1000 with an idle poll between them. -/
theorem test_witness_ConstantVelocityIsDriftFree :
    let a := pollAt sound (quietAt 10)
    let b := [quietAt 500].foldl pollAt a
    let c := pollAt b (quietAt 1010)
    a.result = .polled .stepped 1 ∧ AllIdle a [quietAt 500] ∧ c.result = .polled .stepped 2 ∧
      c.velocity = a.velocity := by
  refine ⟨by decide, ⟨⟨1, by decide⟩, trivial⟩, by decide, by decide⟩

/-- Arming, and a step of the move it arms. -/
theorem test_witness_MovesKeepTheirVelocityProfile :
    ((Instr.ra 2016 12).WellFormed ∧ (ready 0 504).state = .enabled ∧
      ∃ t, exec (.ra 2016 12) (ready 0 504) = .next t ∧ t.state = .running) ∧
    (OnProfile sound ∧ (∀ r, Instr.poll ≠ .sr r) ∧ ∃ t, exec .poll sound = .next t ∧ t.state = .running) :=
  ⟨⟨by decide, by decide, _, rfl, by decide⟩,
    ⟨⟨by decide, by decide, by decide, by decide, by decide, by decide, by decide, by decide⟩, nofun, _, rfl,
      by decide⟩⟩

theorem test_sound_is_sound : Inv sound := by decide

/-- Two steps to the target, polled when due. -/
theorem test_witness_UninterruptedMoveCompletes :
    let s := moving 0 2 .plus 2 0 10
    Inv s ∧ s.state = .running ∧ s.lowerLimit ≤ s.absolutePosition ∧ s.absolutePosition ≤ s.upperLimit ∧
      s.lowerLimit ≤ s.targetPosition ∧ s.targetPosition ≤ s.upperLimit ∧
      [quietAt 10, quietAt 1010].length = (s.targetPosition - s.absolutePosition).natAbs ∧
      DueAndClear s [quietAt 10, quietAt 1010] :=
  ⟨by decide, by decide, by decide, by decide, by decide, by decide, by decide,
    by decide, by decide, by decide, by decide, by decide, by decide, trivial⟩

/-- One step short of each limit, and already at it. -/
theorem test_witness_OvershootingMoveStopsAtTheLimit :
    (let s : State := { moving 1 3 .plus 3 1 10 with upperLimit := 2 }
     Inv s ∧ s.state = .running ∧ s.lowerLimit ≤ s.absolutePosition ∧ s.absolutePosition ≤ s.upperLimit ∧
        DueAndClear s [quietAt 10, quietAt 1010] ∧ s.upperLimit < s.targetPosition ∧
        [quietAt 10, quietAt 1010].length = (s.upperLimit - s.absolutePosition).natAbs + 1) ∧
    (let s : State := { moving (-5) (-8) .minus 8 5 10 with lowerLimit := -5 }
     Inv s ∧ s.state = .running ∧ s.lowerLimit ≤ s.absolutePosition ∧ s.absolutePosition ≤ s.upperLimit ∧
        DueAndClear s [quietAt 10] ∧ s.targetPosition < s.lowerLimit ∧
        [quietAt 10].length = (s.absolutePosition - s.lowerLimit).natAbs + 1) := by
  refine ⟨⟨by decide, by decide, by decide, by decide, ⟨by decide, by decide, by decide, by decide, by decide,
    by decide, trivial⟩, by decide, by decide⟩, by decide, by decide, by decide, by decide,
    ⟨by decide, by decide, by decide, trivial⟩, by decide, by decide⟩

/-- V-P8: position 3, upper limit 1. -/
theorem test_witness_LimitInsideThePositionTrapsTheMotor :
    (let s : State := { moving 3 0 .minus 3 0 5010 with upperLimit := 1 }
     s.Due ∧ s.lowerLimit ≤ s.upperLimit ∧ s.upperLimit + 1 < s.absolutePosition) ∧
    (let s : State := { moving (-3) 0 .plus 3 0 5010 with lowerLimit := -1 }
     s.Due ∧ s.lowerLimit ≤ s.upperLimit ∧ s.absolutePosition < s.lowerLimit - 1) := by decide

/-- Arming under the host's law, and a poll after it. -/
theorem test_witness_GuardIntervalIsKept :
    let s : State := { ready 0 0 with inbox := [⟨.cmd [0x47, 0x41], quietAt 5⟩, ⟨.poll, quietAt 20⟩] }
    s.trace = [] ∧ HostLaw s.inputs.now s.inbox ∧ GuardKept s ∧ ∃ t, step s = .next t ∧ t.inbox.length = 1 :=
  ⟨rfl, ⟨by decide, by decide, by decide, by decide, trivial⟩,
    ⟨List.Pairwise.nil, fun h => absurd h (by decide), fun _ h => absurd h List.not_mem_nil,
      by decide, by decide, by decide, by decide, trivial⟩, _, rfl, rfl⟩

/-- Two states that differ in time alone, with an estimate of which nothing is known. -/
theorem test_witness_RemainingTimeFollowsTheEstimate :
    let s : State := { moving 2 12 .plus 12 2 3986 with params := { bench with remTime := .other 3 } }
    (∃ t, exec .gt s = .next t) ∧ ∃ u, exec .gt { s with inputs := quietAt 4000, trace := [] } = .next u :=
  ⟨⟨_, rfl⟩, _, rfl⟩

/-- V-Q3: `-5`. -/
theorem test_witness_NumbersRenderInMinimalDecimal :
    (-1 : Int) < 0 ∧ renderInt (-5) = [0x2D#8, 0x35#8] := by decide

theorem test_witness_DeclinedCommandsReplyEmptyAndChangeNothing :
    ¬ ((1 : Int) ≤ 0 ∧ 1 ≤ fresh.upperLimit) ∧ ¬ (0 ≤ (-1 : Int) ∧ fresh.lowerLimit ≤ -1) ∧
      fresh.state ≠ .enabled ∧ (ready 0 0).maxVelocity = 0 ∧
      ({ ready 0 0 with params := { bench with llsConfigured := false } } : State).params.llsConfigured = false := by
  decide

/-- V-H1, with the last sample listed and with it the level that follows; V-H2, no pulse at all. -/
theorem test_witness_FindHomeSeeksAndBacksOff :
    (let s := beforeHoming (samples [.clear, .clear, .clear, .triggered, .triggered, .clear] .clear)
     s.state = .enabled ∧ s.params.llsConfigured = true ∧ s.inputs.lls.script =
        List.replicate 3 .clear ++ .triggered :: (List.replicate 1 .triggered ++ .clear :: [])) ∧
    (let s := beforeHoming (samples [.triggered] .clear)
     s.inputs.lls.script = List.replicate 0 .clear ++ .triggered :: List.replicate 0 .triggered ∧
        s.inputs.lls.rest = .clear) := by decide

/-- V-H2 returns, V-H3 does not. -/
theorem test_witness_FindHomeReturnsIffTheSwitchReleases :
    (let s := beforeHoming (samples [.triggered] .clear)
     s.state = .enabled ∧ s.params.llsConfigured = true ∧ sampleAt s.inputs.lls 0 = .triggered ∧
        sampleAt s.inputs.lls 1 = .clear) ∧
      (after .fh (beforeHoming (samples [.triggered] .clear))).homing = none ∧
      (after .fh (beforeHoming (samples [.clear, .triggered] .triggered))).homing = some .backOff := by decide

theorem test_witness_UnfinishedHomingBlocksEverything :
    (let s : State := { beforeHoming (samples [] .clear) with homing := some .seek }
     s.inputs.lls.script = [] ∧ s.homing = some .seek ∧ s.inputs.lls.rest = .clear) ∧
    (let s : State := { beforeHoming (samples [] .triggered) with homing := some .backOff }
     s.inputs.lls.script = [] ∧ s.homing = some .backOff ∧ s.inputs.lls.rest = .triggered) := by decide

/-- A command, a poll and a reset presented. -/
theorem test_witness_StepRunsTheDecodedOperation :
    fresh.homing = none ∧ (Instr.su 500).WellFormed ∧ Instr.poll.WellFormed ∧ Instr.reset.WellFormed ∧
      decode (.cmd [0x53, 0x55, 0x35, 0x30, 0x30]) = .ok (.su 500) ∧ decode .poll = .ok .poll ∧
      decode .reset = .ok .reset := ⟨rfl, by decide, rfl, rfl, rfl, rfl, rfl⟩

theorem test_witness_IllegalTextIsAnsweredAndChangesNothing :
    let s : State := { fresh with inbox := [⟨.cmd [0x58, 0x58], quietAt 7⟩] }
    s.homing = none ∧ s.inbox = { request := .cmd [0x58, 0x58], inputs := quietAt 7 } :: [] ∧
      decode (.cmd [0x58, 0x58]) = .error .unknownCode := ⟨rfl, rfl, rfl⟩

theorem test_witness_NothingPresentedNothingHappens : fresh.homing = none ∧ fresh.inbox = [] := by decide

theorem test_witness_EncodeThenDecodeGivesTheOperation :
    (Instr.sl (-2147483648)).WellFormed ∧ (Instr.su 2147483647).WellFormed ∧ (Instr.sr 9).WellFormed ∧
      (Instr.ra 1 0).WellFormed ∧ (Instr.rr 9999 (-1)).WellFormed := by decide

theorem test_witness_DecodedOperationsAreWellFormed :
    decode (.cmd [0x53, 0x52, 0x39]) = .ok (.sr 9) := by rfl

/-- The largest value, and the first one beyond it. -/
theorem test_witness_SignedIntegersReadAsWritten :
    decodeSint [0x32, 0x31, 0x34, 0x37, 0x34, 0x38, 0x33, 0x36, 0x34, 0x37] = some 2147483647 ∧ FitsPos 2147483647 ∧
      decodeSint [0x32, 0x31, 0x34, 0x37, 0x34, 0x38, 0x33, 0x36, 0x34, 0x38] = some 2147483648 ∧
      ¬ FitsPos 2147483648 := ⟨rfl, by decide, rfl, by decide⟩

/-- Velocity fields at both ends of their range, and one that is no velocity. -/
theorem test_witness_ProtocolErrorsByKind :
    renderVel 0 = [0x30, 0x30, 0x30, 0x30] ∧ renderVel 9999 = [0x39, 0x39, 0x39, 0x39] ∧
      (∀ vel ≤ 9999, [0x31#8, 0x30#8, 0x30#8].take 4 ≠ renderVel vel) := by
  refine ⟨by decide, by decide, fun vel _ h => ?_⟩
  have := congrArg List.length h
  simp [renderVel] at this

/-- A move, an unfinished `FH` and a waiting controller are sound. -/
theorem test_witness_EveryStepKeepsTheInvariant :
    (Inv sound ∧ ∃ t, step sound = .next t) ∧
      (let s : State := { beforeHoming (samples [] .clear) with homing := some .seek }
       Inv s ∧ ∃ t, step s = .next t ∧ t.trace.length = 1) :=
  ⟨⟨by decide, _, rfl⟩, by decide, _, rfl, rfl⟩

/-- One arming serves the whole-machine rules over `exec`; the refused text of the transition table is the one above. -/
theorem test_witness_whole_machine_rules :
    (∃ t, exec (.ra 2016 9) (ready 0 504) = .next t ∧ t.state = .running) ∧ Launched (ready 0 504) (.ra 2016 9) ∧
      ¬ Launched fresh (.ra 2016 9) :=
  ⟨⟨_, rfl, by decide⟩, ⟨rfl, by decide⟩, fun h => nomatch h.1⟩

end Sys2Proof.Tests
end

section
/-! `RESET`: the operation and its effect on the record (10_state.md R49). -/

namespace Sys2Proof.Machine

/-- The operation of `RESET` is construction over the state's own parameters, with what stands outside the block kept. -/
theorem exec_reset (s : State) : exec .reset s = .next { State.construct s.params with
    inputs := s.inputs
    inbox := s.inbox
    trace := s.trace ++ resetEvents } := rfl

/-- Settles O36. The entries written are `resetEvents`, whatever the state. Construction fixes every field of the record
and the three lines, and what `exec_reset` puts back (the parameters, the inputs, the inbox) is exactly what the
statement keeps, so the two records agree field by field. -/
theorem resetOperationWritesEveryField : Obligations.ResetOperationWritesEveryField := by
  intro s
  refine ⟨resetEvents, ?_⟩
  rw [exec_reset, State.construct]

end Sys2Proof.Machine
end

section
/-! The guard interval between an arming's direction write and the polls' pulses (20_memory.md R73).

What `GuardKept` reads of a state changes in three ways only: the trace grows by entries the guard property does not
speak of, a launch writes `out.dir` and sets the deadline, or a due poll pulses. Each has its rule here; the operations
are chains of these rules. -/

namespace Sys2Proof.Claims

open Sys2Proof.Machine

/-! ### The rules -/

/-- The guard property does not speak of the entry: it is neither a direction write of an arming nor a poll's pulse. -/
def Unguarded (e : TraceEntry) : Prop := (∀ a, ¬ ArmingDirWrite e a) ∧ ∀ b, ¬ PollPulse e b

theorem unguarded_of_fh {e : TraceEntry} (h : e.op = .fh) : Unguarded e :=
  ⟨fun _ he => he.1 h, fun _ he => Instr.noConfusion (h.symm.trans he.1)⟩

theorem unguarded_of_mem_resetEvents {e : TraceEntry} (h : e ∈ resetEvents) : Unguarded e := by
  have hop : ∀ x ∈ resetEvents, x.op = .reset := by simp [resetEvents]
  exact ⟨fun _ he => he.2.1 (hop e h), fun _ he => Instr.noConfusion ((hop e h).symm.trans he.1)⟩

@[simp] theorem unguarded_enWrite (op : Instr) (now : Option Time) (l : DriveLevel) :
    Unguarded ⟨op, now, .enWrite l⟩ := by
  simp [Unguarded, ArmingDirWrite, PollPulse]

@[simp] theorem unguarded_stepWrite (op : Instr) (now : Option Time) (l : DriveLevel) :
    Unguarded ⟨op, now, .stepWrite l⟩ := by
  simp [Unguarded, ArmingDirWrite, PollPulse]

/-- From `s` to `t` the trace grows by `new`, entries with no time but `now`, and what stands around the trace stays. -/
structure TraceGrows (s t : State) (new : List TraceEntry) : Prop where
  /-- The trace grows by the new entries. -/
  trace : t.trace = s.trace ++ new
  /-- The construction parameters, the time and what is still to be presented stay. -/
  setting : t.params = s.params ∧ t.inputs.now = s.inputs.now ∧ t.inbox = s.inbox
  /-- No new entry has another time than `now`. -/
  stamped : ∀ e ∈ new, ∀ a, e.now = some a → a = s.inputs.now

/-- No move begins from `s` to `t`, and a move that goes on has its deadline no earlier. -/
def MoveGoesOn (s t : State) : Prop :=
  t.state = .running → s.state = .running ∧ s.nextStepDeadline ≤ t.nextStepDeadline

/-- No entry of the grown trace is later than the time. -/
theorem TraceGrows.past {s t : State} {new : List TraceEntry} (h : TraceGrows s t new)
    (hpast : ∀ e ∈ s.trace, ∀ a, e.now = some a → a ≤ s.inputs.now) :
    ∀ e ∈ t.trace, ∀ a, e.now = some a → a ≤ t.inputs.now := by
  obtain ⟨-, hnow, -⟩ := h.setting
  rw [h.trace, hnow]
  intro e he a ha
  rcases List.mem_append.1 he with hold | hnew
  · exact hpast e hold a ha
  · exact h.stamped e hnew a ha ▸ BitVec.le_refl _

/-- The rule of growth: the guard property is kept when the new entries hold no arming's write before a poll's pulse,
a poll's pulse is new only where a running move was due, and a move in progress keeps its deadline or has it the guard
interval from now. -/
theorem GuardKept.grow {s t : State} {new : List TraceEntry} (hs : GuardKept s) (h : TraceGrows s t new)
    (hnew : new.Pairwise fun x y => ∀ a b, ArmingDirWrite x a → ¬ PollPulse y b)
    (hdue : ∀ e ∈ new, ∀ b, PollPulse e b → s.Due)
    (hmove : t.state = .running → t.nextStepDeadline = s.inputs.now.toNat + s.params.tGuardUs ∨
      (s.state = .running ∧ s.nextStepDeadline ≤ t.nextStepDeadline ∧ ∀ e ∈ new, ∀ a, ¬ ArmingDirWrite e a)) :
    GuardKept t := by
  obtain ⟨hapart, hdeadline, hpast, hlaw⟩ := hs
  obtain ⟨hparams, hnow, hinbox⟩ := h.setting
  have hpast' := h.past hpast
  refine ⟨?_, fun hrun e he a ha => ?_, hpast', by rw [hnow, hinbox]; exact hlaw⟩
  · rw [h.trace, hparams]
    refine List.pairwise_append.2 ⟨hapart, hnew.imp fun hxy a b hx hy => absurd hy (hxy a b hx), ?_⟩
    intro x hx y hy a b hax hby
    obtain ⟨-, hrun, hreached⟩ := hdue y hy b hby
    rw [h.stamped y hy b hby.2.1]
    exact (hdeadline hrun x hx a hax).trans hreached
  · rw [hparams]
    rcases hmove hrun with hset | ⟨hrun, hle, hnone⟩
    · have hale : a.toNat ≤ t.inputs.now.toNat := hpast' e he a ha.2.2.1
      rw [hnow] at hale
      omega
    · rw [h.trace] at he
      have hold := (List.mem_append.1 he).resolve_right fun hmem => hnone e hmem a ha
      exact (hdeadline hrun e hold a ha).trans hle

/-- Growth by unguarded entries keeps the guard property. -/
theorem GuardKept.quiet {s t : State} {new : List TraceEntry} (hs : GuardKept s) (h : TraceGrows s t new)
    (hnew : ∀ e ∈ new, Unguarded e) (hmove : MoveGoesOn s t) : GuardKept t := by
  refine hs.grow h (List.pairwise_of_forall_mem_list fun x hx _ _ a _ hax => absurd hax ((hnew x hx).1 a))
    (fun e he b hb => absurd hb ((hnew e he).2 b)) fun hrun => .inr ?_
  obtain ⟨hrun, hle⟩ := hmove hrun
  exact ⟨hrun, hle, fun e he => (hnew e he).1⟩

/-- What leaves the trace alone keeps the guard property. -/
theorem GuardKept.frame {s t : State} (hs : GuardKept s) (htrace : t.trace = s.trace)
    (hsetting : t.params = s.params ∧ t.inputs.now = s.inputs.now ∧ t.inbox = s.inbox)
    (hmove : MoveGoesOn s t) : GuardKept t :=
  hs.quiet (new := []) ⟨by rw [htrace, List.append_nil], hsetting, by simp⟩ (by simp) hmove

/-! ### The shared operations -/

theorem GuardKept.reply {s : State} (hs : GuardKept s) (r : Reply) : GuardKept (s.reply r) :=
  hs.frame rfl ⟨rfl, rfl, rfl⟩ fun hrun => ⟨hrun, le_rfl⟩

theorem GuardKept.signal {s : State} (hs : GuardKept s) (sig : Signal) : GuardKept (s.signal sig) :=
  hs.frame rfl ⟨rfl, rfl, rfl⟩ fun hrun => ⟨hrun, le_rfl⟩

theorem GuardKept.endMove {s : State} (hs : GuardKept s) (sig : Signal) : GuardKept (s.endMove sig) :=
  hs.frame rfl ⟨rfl, rfl, rfl⟩ nofun

theorem GuardKept.scheduleNext {s : State} (hs : GuardKept s) : GuardKept s.scheduleNext :=
  hs.frame rfl ⟨rfl, rfl, rfl⟩ fun hrun => ⟨hrun, Nat.le_add_right _ _⟩

/-- Parts 1 to 3 of arming write the plan alone. -/
theorem GuardKept.plan {s : State} (hs : GuardKept s) (target : Int) (vmax : Nat) :
    GuardKept ((s.setMove target vmax).planRamp vmax).planShape :=
  hs.frame (by simp) (by simp) fun hrun => ⟨by simpa using hrun, by simp⟩

/-- The launch writes `out.dir` and sets the deadline the guard interval from now. -/
theorem GuardKept.launch {s : State} (hs : GuardKept s) (op : Instr) : GuardKept (s.launch op) := by
  refine hs.grow (new := [_]) ⟨launch_trace s op, ⟨rfl, rfl, rfl⟩, ?_⟩ (List.pairwise_singleton _ _) ?_
    fun _ => .inl rfl
  · simp
  · simp [PollPulse]

/-- A due poll's pulse comes no earlier than the deadline. -/
theorem GuardKept.commitStep {s : State} (hs : GuardKept s) (hdue : s.Due) : GuardKept s.commitStep := by
  refine hs.grow (new := [_]) ⟨commitStep_trace s, ⟨rfl, rfl, rfl⟩, ?_⟩ (List.pairwise_singleton _ _)
    (fun _ _ _ _ => hdue) fun hrun => .inr ⟨hrun, le_rfl, ?_⟩
  · simp
  · simp [ArmingDirWrite]

theorem GuardKept.arm {s : State} (hs : GuardKept s) (op : Instr) (target : Int) (vmax : Nat) :
    GuardKept (s.arm op target vmax) := by
  by_cases h : target = s.absolutePosition
  · subst h
    rw [arm_here]
    exact (hs.plan _ vmax).reply .empty
  · rw [arm_away s op target vmax h]
    exact ((hs.plan target vmax).launch op).reply .empty

theorem GuardKept.armIfEnabled {s : State} (hs : GuardKept s) (op : Instr) (target : Int) (vmax : Nat) :
    GuardKept (s.armIfEnabled op target vmax) := by
  rcases armIfEnabled_cases s op target vmax with ⟨-, h⟩ | ⟨-, h⟩ <;> rw [h]
  · exact hs.arm op target vmax
  · exact hs.reply .empty

theorem GuardKept.armAtHeldVelocity {s : State} (hs : GuardKept s) (op : Instr) (target : Int) :
    GuardKept (s.armAtHeldVelocity op target) := by
  rcases armAtHeldVelocity_cases s op target with ⟨-, -, h⟩ | ⟨-, h⟩ <;> rw [h]
  · exact hs.arm op target s.maxVelocity
  · exact hs.reply .empty

theorem GuardKept.afterStep {s : State} (hs : GuardKept s) : GuardKept s.afterStep := by
  rcases afterStep_cases s with ⟨-, h⟩ | ⟨-, -, h⟩ | ⟨-, -, -, h⟩ | ⟨-, -, -, h⟩ <;> rw [h]
  · exact hs.endMove .limitLower
  · exact hs.endMove .limitUpper
  · exact hs.endMove .complete
  · exact hs.scheduleNext.signal .stepped

/-- Homing makes events of its own only, which the guard property does not speak of, and touches no move. -/
theorem GuardKept.homing {s t : State} (hs : GuardKept s) (h : HomingFrame s t) : GuardKept t := by
  obtain ⟨new, htrace, hop⟩ := h.trace
  have hplan := h.plan
  simp only [Prod.mk.injEq] at hplan
  obtain ⟨-, -, -, -, -, -, -, -, hdeadline⟩ := hplan
  refine hs.quiet ⟨htrace, ⟨h.setting.2, h.outside⟩, fun e he a ha => ?_⟩ (fun e he => unguarded_of_fh (hop e he).1)
    fun hrun => ⟨h.state ▸ hrun, hdeadline.ge⟩
  exact Option.some_inj.1 (ha.symm.trans (hop e he).2)

theorem GuardKept.homingStart {s : State} (hs : GuardKept s) : GuardKept s.homingStart :=
  hs.quiet (new := [_]) ⟨homingStart_trace s, ⟨rfl, rfl, rfl⟩, by simp⟩ (by simpa using unguarded_of_fh rfl)
    fun hrun => ⟨hrun, le_rfl⟩

/-! ### The operations -/

/-- What a poll can be: idle, a range fault on either side, or a step with what follows it (42_step_scheduler.md
R160). -/
theorem exec_poll_cases (s : State) :
    (¬ s.Due ∧ exec .poll s = .next (s.signal .idle)) ∨
      (s.Due ∧ s.candidate < s.lowerLimit ∧ exec .poll s = .next (s.endMove .rangeLower)) ∨
      (s.Due ∧ s.lowerLimit ≤ s.candidate ∧ s.upperLimit < s.candidate ∧
        exec .poll s = .next (s.endMove .rangeUpper)) ∨
      (s.Due ∧ s.lowerLimit ≤ s.candidate ∧ s.candidate ≤ s.upperLimit ∧
        exec .poll s = .next s.commitStep.afterStep) := by
  simp only [exec, execPoll]
  split_ifs with hdue hlow hup
  · exact .inr (.inl ⟨hdue, hlow, rfl⟩)
  · exact .inr (.inr (.inl ⟨hdue, not_lt.1 hlow, hup, rfl⟩))
  · exact .inr (.inr (.inr ⟨hdue, not_lt.1 hlow, not_lt.1 hup, rfl⟩))
  · exact .inl ⟨hdue, rfl⟩

theorem GuardKept.poll {s t : State} (hs : GuardKept s) (h : exec .poll s = .next t) : GuardKept t := by
  rcases exec_poll_cases s with ⟨-, he⟩ | ⟨-, -, he⟩ | ⟨-, -, -, he⟩ | ⟨hdue, -, -, he⟩ <;> cases he.symm.trans h
  · exact hs.signal .idle
  · exact hs.endMove .rangeLower
  · exact hs.endMove .rangeUpper
  · exact (hs.commitStep hdue).afterStep

theorem GuardKept.ite {c : Prop} [Decidable c] {s t : State} (hs : GuardKept s) (ht : GuardKept t) :
    GuardKept (if c then s else t) := by
  split_ifs
  · exact hs
  · exact ht

/-- The setters' shape: a command that writes fields the guard property does not read, or does nothing, and replies. -/
theorem GuardKept.setOrDrop {c : Prop} [Decidable c] {s u : State} (hs : GuardKept s) (htrace : u.trace = s.trace)
    (hsetting : u.params = s.params ∧ u.inputs.now = s.inputs.now ∧ u.inbox = s.inbox)
    (hmove : u.state = s.state ∧ u.nextStepDeadline = s.nextStepDeadline) :
    GuardKept ((if c then u else s).reply .empty) :=
  ((hs.frame htrace hsetting fun hrun => ⟨hmove.1 ▸ hrun, hmove.2.ge⟩).ite hs).reply .empty

/-- Every operation keeps the guard property. -/
theorem GuardKept.exec {i : Instr} {s t : State} (hs : GuardKept s) (h : exec i s = .next t) : GuardKept t := by
  cases i with
  | poll => exact hs.poll h
  | en =>
    cases h
    exact hs.quiet (new := [_]) ⟨rfl, ⟨rfl, rfl, rfl⟩, by simp⟩ (by simp) nofun
  | di =>
    cases h
    exact hs.quiet (new := [_]) ⟨rfl, ⟨rfl, rfl, rfl⟩, by simp⟩ (by simp) nofun
  | es =>
    cases h
    exact hs.quiet (new := [_, _]) ⟨List.append_assoc _ _ _, ⟨rfl, rfl, rfl⟩, by simp⟩ (by simp) nofun
  | reset =>
    cases h
    exact hs.quiet ⟨rfl, ⟨rfl, rfl, rfl⟩, by simp [resetEvents]⟩ (fun _ => unguarded_of_mem_resetEvents) nofun
  | fh =>
    cases h
    exact (hs.homingStart.homing (homingRun_frame _ _)).ite (hs.reply .empty)
  | sh => cases h; exact hs.setOrDrop rfl ⟨rfl, rfl, rfl⟩ ⟨rfl, rfl⟩
  | sl v => cases h; exact hs.setOrDrop rfl ⟨rfl, rfl, rfl⟩ ⟨rfl, rfl⟩
  | su v => cases h; exact hs.setOrDrop rfl ⟨rfl, rfl, rfl⟩ ⟨rfl, rfl⟩
  | sr r => cases h; exact hs.setOrDrop rfl ⟨rfl, rfl, rfl⟩ ⟨rfl, rfl⟩
  | ra vel target => cases h; exact hs.armIfEnabled _ target vel
  | rr vel count => cases h; exact (hs.reply _).ite (hs.armIfEnabled _ _ vel)
  | rh => cases h; exact hs.armAtHeldVelocity .rh 0
  | rl => cases h; exact hs.armAtHeldVelocity .rl s.lowerLimit
  | ru => cases h; exact hs.armAtHeldVelocity .ru s.upperLimit
  | ga => cases h; exact hs.reply _
  | gr => cases h; exact hs.reply _
  | gl => cases h; exact hs.reply _
  | gu => cases h; exact hs.reply _
  | gt => cases h; exact hs.reply _
  | gv => cases h; exact hs.reply _

/-! ### The step -/

/-- What the host's law says of the operation presented next: its time is no earlier, and the law holds from there. -/
theorem hostLaw_present {s : State} {p : Presented} {later : List Presented}
    (h : HostLaw s.inputs.now (p :: later)) :
    s.inputs.now ≤ (s.inputsAt p).now ∧ HostLaw (s.inputsAt p).now later := by
  unfold HostLaw at h
  unfold State.inputsAt
  cases hreq : p.request <;> rw [hreq] at h
  case reset => exact ⟨BitVec.le_refl _, h⟩
  case poll => exact ⟨h.1, h.2.2⟩
  case cmd => exact ⟨h.1, h.2.2⟩

/-- Presenting an operation lets time go on, as the host's law allows. -/
theorem GuardKept.present {s : State} {p : Presented} {later : List Presented} (hs : GuardKept s)
    (hinbox : s.inbox = p :: later) : GuardKept (s.present p later) := by
  obtain ⟨hapart, hdeadline, hpast, hlaw⟩ := hs
  rw [hinbox] at hlaw
  obtain ⟨hle, hlaw'⟩ := hostLaw_present hlaw
  exact ⟨hapart, hdeadline, fun e he a ha => BitVec.le_trans (hpast e he a ha) hle, hlaw'⟩

/-- With an empty trace the host's law alone gives the guard property. -/
theorem guardKept_of_trace_nil {s : State} (htrace : s.trace = []) (hlaw : HostLaw s.inputs.now s.inbox) :
    GuardKept s := by
  unfold GuardKept
  rw [htrace]
  exact ⟨List.Pairwise.nil, fun _ => List.forall_mem_nil _, List.forall_mem_nil _, hlaw⟩

/-- Every step keeps the guard property. -/
theorem GuardKept.step {s t : State} (hs : GuardKept s) (h : step s = .next t) : GuardKept t := by
  rcases step_cases s with ⟨-, he⟩ | ⟨-, -, he⟩ | ⟨p, later, i, -, hinbox, -, he⟩ | ⟨p, later, kind, -, hinbox, -, he⟩
  · cases he.symm.trans h
    exact hs.homing (homingIteration_frame s)
  · cases he.symm.trans h
    exact hs
  · exact (hs.present hinbox).exec (he.symm.trans h)
  · cases he.symm.trans h
    exact (hs.present hinbox).reply (.error kind)

/-- Settles O27. With nothing in the trace only the host's law is left to hold. A step presents an operation, which lets
time go on, and executes it; the operation adds unguarded entries, or launches a move with its deadline the guard
interval from now, or pulses in a poll that has reached the deadline. -/
theorem guardIntervalIsKept : Obligations.GuardIntervalIsKept :=
  ⟨fun _ htrace hlaw => guardKept_of_trace_nil htrace hlaw, fun _ _ hs h => hs.step h⟩

end Sys2Proof.Claims
end

section
/-! PROOF. The encoding statements (30_encoding.md): the rendering of numbers (R106), by the equation of `renderNat`, and
the codes of a poll's signal (R101), signal by signal. -/

namespace Sys2Proof

/-- A number that is not negative is rendered without a sign. -/
theorem renderInt_natCast (n : Nat) : renderInt n = renderNat n := by
  unfold renderInt
  rw [if_neg (Int.natCast_nonneg n).not_gt, Int.natAbs_natCast]

theorem renderInt_of_neg {n : Int} (h : n < 0) : renderInt n = 0x2D#8 :: renderNat n.natAbs :=
  if_pos h

/-- What follows the minus sign is the rendering of the negation. -/
theorem renderInt_neg_of_neg {n : Int} (h : n < 0) : renderInt (-n) = renderNat n.natAbs := by
  rw [← Int.ofNat_natAbs_of_nonpos h.le, renderInt_natCast]

/-- Settles O30. A natural number has no sign, and its digits are those of `renderNat_eq`; after the sign of a negative
number stands the rendering of the natural number that is its negation. -/
theorem numbersRenderInMinimalDecimal : Obligations.NumbersRenderInMinimalDecimal := by
  constructor
  · intro n
    exact (renderInt_natCast n).trans (renderNat_eq n)
  · intro n hn
    rw [renderInt_of_neg hn, renderInt_neg_of_neg hn]

/-- Settles O18, signal by signal: the seven codes are numerals, whose bits are read off. -/
theorem signalCodesNameTheFaults : Obligations.SignalCodesNameTheFaults := by
  intro g
  cases g <;> decide

end Sys2Proof
end

section
/-! PROOF. The Motion State statements (40_motion_state.md): `EN`, `DI`, `SH`, `SL`, `SU` and `SR` by the equation of the
operation, and the ramp table by the inequality of neighbouring quotients. -/

namespace Sys2Proof.Machine

/-! ### The operations, over the shared rules of the state -/

theorem exec_en (s : State) : exec .en s =
    .next (({ s.driveEn .en .active with state := .enabled } : State).setHome.reply .empty) := rfl

theorem exec_di (s : State) : exec .di s =
    .next (({ s.driveEn .di .inactive with state := .disabled } : State).clearHomed.reply .empty) := rfl

theorem exec_sh (s : State) : exec .sh s =
    .next ((if s.state = .enabled then s.setHome else s).reply .empty) := rfl

theorem exec_sl (s : State) (v : Int) : exec (.sl v) s =
    .next ((if v ≤ 0 ∧ v ≤ s.upperLimit then { s with lowerLimit := v } else s).reply .empty) := rfl

theorem exec_su (s : State) (v : Int) : exec (.su v) s =
    .next ((if 0 ≤ v ∧ s.lowerLimit ≤ v then { s with upperLimit := v } else s).reply .empty) := rfl

theorem exec_sr (s : State) (r : Nat) : exec (.sr r) s =
    .next ((if r ≤ 9 then { s with velocityIncrement := s.params.vinc r } else s).reply .empty) := rfl

/-- Settles O1: `EN` is a write of the enable line, the change to `ENABLED` and set home, and these write no field
besides those of the statement. -/
theorem enableDrivesAndSetsHome : Obligations.EnableDrivesAndSetsHome := by
  intro s
  rw [exec_en, State.driveEn, State.emit, State.setHome, State.reply]

/-- Settles O2: `DI` is a write of the enable line, the change to `DISABLED` and the loss of the home reference, none of
which writes a count. -/
theorem disableDropsTheHomeReference : Obligations.DisableDropsTheHomeReference := by
  intro s
  rw [exec_di, State.driveEn, State.emit, State.clearHomed, State.reply]

/-- Settles O3, by the two branches of `SH`. -/
theorem setHomeActsOnlyWhenEnabled : Obligations.SetHomeActsOnlyWhenEnabled := by
  intro s
  constructor
  · intro henabled
    rw [exec_sh, if_pos henabled, State.setHome, State.reply]
  · intro hother
    rw [exec_sh, if_neg hother, State.reply]

/-- Settles O4, by the two branches of each setter: the guards are those of the statement, for every `v`. -/
theorem settersTakeOnlyConventionalLimits : Obligations.SettersTakeOnlyConventionalLimits := by
  intro s v _
  refine ⟨fun htaken => ?_, fun hdropped => ?_, fun htaken => ?_, fun hdropped => ?_⟩
  · rw [exec_sl, if_pos htaken, State.reply]
  · rw [exec_sl, if_neg hdropped, State.reply]
  · rw [exec_su, if_pos htaken, State.reply]
  · rw [exec_su, if_neg hdropped, State.reply]

/-- Settles O5, by the two branches of `SR`; the table is written out by its definition. -/
theorem setRampFactorLoadsTheTable : Obligations.SetRampFactorLoadsTheTable := by
  intro s r
  constructor
  · intro hfactor
    rw [exec_sr, if_pos hfactor, State.reply, Params.vinc]
  · intro habove
    rw [exec_sr, if_neg habove.not_ge, State.reply]

/-! ### The ramp table -/

theorem vinc_zero (p : Params) : p.vinc 0 = 0 := if_pos rfl

theorem vinc_of_pos (p : Params) {r : Nat} (hr : 0 < r) : p.vinc r = p.kRamp / r := if_neg hr.ne'

/-- No entry of the table past the first is below 8, the whole quotient of the least constant by the largest factor. -/
theorem eight_le_vinc {p : Params} (hp : p.Wf) {r : Nat} (hr : 0 < r) (hr9 : r ≤ 9) : 8 ≤ p.vinc r := by
  obtain ⟨hk, -, -⟩ := hp
  rw [vinc_of_pos p hr, Nat.le_div_iff_mul_le hr]
  omega

/-- With `q` the entry of the larger factor `r'`, one more than `q` still goes `r` times into the constant, since the
`r` it adds is at most `q` and `(r + 1) * q ≤ r' * q`. -/
theorem vinc_lt_vinc {p : Params} (hp : p.Wf) {r r' : Nat} (hr : 0 < r) (hlt : r < r') (hr9 : r' ≤ 9) :
    p.vinc r' < p.vinc r := by
  have hr' : 0 < r' := hr.trans hlt
  have hq : 8 ≤ p.vinc r' := eight_le_vinc hp hr' hr9
  have hmul : r' * p.vinc r' ≤ p.kRamp := vinc_of_pos p hr' ▸ Nat.mul_div_le p.kRamp r'
  rw [vinc_of_pos p hr, Nat.lt_iff_add_one_le, Nat.le_div_iff_mul_le hr]
  calc (p.vinc r' + 1) * r = r * p.vinc r' + r := by ring
    _ ≤ r * p.vinc r' + p.vinc r' := by omega
    _ = (r + 1) * p.vinc r' := by ring
    _ ≤ r' * p.vinc r' := Nat.mul_le_mul_right _ hlt
    _ ≤ p.kRamp := hmul

/-- Settles O6: the entries are as defined, at least 8 past the first, and strictly decreasing. -/
theorem rampTableStrictlyDecreases : Obligations.RampTableStrictlyDecreases := fun p hp =>
  ⟨vinc_zero p, fun _ hr hr9 => ⟨vinc_of_pos p hr, Nat.zero_lt_of_lt (eight_le_vinc hp hr hr9)⟩,
    fun _ _ hr hlt hr9 => vinc_lt_vinc hp hr hlt hr9⟩

end Sys2Proof.Machine
end

section
/-! PROOF. The rotate commands (41_ramp_planner.md): arming a move gives `armed` (R141), so each command has one equation
in the vocabulary of the statements, and every plan is `plannedRamp` and `plannedDown` of its own fields (R143, R152). -/

namespace Sys2Proof.Claims

open Sys2Proof.Machine

/-! ### Arming -/

/-- The two tests of `planRamp`, no increment and an increment above `vmax`, are the one test of the start velocity. -/
theorem startVelocity_eq (inc vmax : Nat) :
    startVelocity inc vmax = if inc = 0 ∨ vmax / inc = 0 then (vmax : Int) else 0 := by
  unfold startVelocity rampLength
  by_cases hinc : inc = 0
  · rw [if_pos hinc, if_pos rfl, if_pos (.inl hinc)]
  · rw [if_neg hinc]
    simp only [hinc, false_or]

/-- The direction level of a distance is decided by the sign that decides its step increment. -/
theorem dir_ofDistance (d : Int) :
    (StepIncrement.ofDistance d).dir = if d > 0 then DirLevel.fwd else DirLevel.rev := by
  unfold StepIncrement.ofDistance
  split_ifs <;> rfl

/-- Parts 1 to 3 of arming. -/
theorem plan_eq_planned (s : State) (target : Int) (vmax : Nat) :
    ((s.setMove target vmax).planRamp vmax).planShape = planned s target vmax := by
  rw [planShape_eq, planRamp_eq, planned, startVelocity_eq]
  rfl

/-- The whole of arming: the plan, and the launch of a move that goes anywhere. -/
theorem arm_eq_armed (s : State) (i : Instr) (target : Int) (vmax : Nat) :
    s.arm i target vmax = armed i s target vmax := by
  by_cases h : target = s.absolutePosition
  · subst h
    rw [arm_here, plan_eq_planned, armed, if_pos rfl, State.reply]
  · rw [arm_away s i target vmax h, plan_eq_planned, armed, if_neg h, ← dir_ofDistance]
    rfl

/-! ### The operations, over `armed` -/

theorem exec_ra (s : State) (vel : Nat) (target : Int) : exec (.ra vel target) s =
    .next (if s.state = .enabled then armed (.ra vel target) s target vel else s.reply .empty) := by
  rw [← arm_eq_armed]
  rfl

theorem exec_rr (s : State) (vel : Nat) (count : Int) : exec (.rr vel count) s =
    .next (if s.state = .enabled ∧ ¬ FitsPos (s.absolutePosition + count) then s.reply (.error .range)
      else if s.state = .enabled then armed (.rr vel count) s (s.absolutePosition + count) vel
      else s.reply .empty) := by
  rw [← arm_eq_armed]
  rfl

theorem exec_rh (s : State) : exec .rh s =
    .next (if s.state = .enabled ∧ s.maxVelocity ≠ 0 then armed .rh s 0 s.maxVelocity else s.reply .empty) := by
  rw [← arm_eq_armed]
  rfl

theorem exec_rl (s : State) : exec .rl s =
    .next (if s.state = .enabled ∧ s.maxVelocity ≠ 0 then armed .rl s s.lowerLimit s.maxVelocity
      else s.reply .empty) := by
  rw [← arm_eq_armed]
  rfl

theorem exec_ru (s : State) : exec .ru s =
    .next (if s.state = .enabled ∧ s.maxVelocity ≠ 0 then armed .ru s s.upperLimit s.maxVelocity
      else s.reply .empty) := by
  rw [← arm_eq_armed]
  rfl

/-- Every accepted rotate command arms a move to its target, at some cruise velocity. -/
theorem exec_of_accepted {i : Instr} {s : State} (h : Accepted s i) :
    ∃ vmax, exec i s = .next (armed i s (rotateTarget s i) vmax) := by
  cases i with
  | ra vel target => exact ⟨vel, (exec_ra s vel target).trans (congrArg _ (if_pos h))⟩
  | rr vel count =>
    obtain ⟨henabled, hfits⟩ := h
    refine ⟨vel, ?_⟩
    rw [exec_rr, if_neg fun hbeyond => hbeyond.2 hfits, if_pos henabled, rotateTarget]
  | rh => exact ⟨s.maxVelocity, (exec_rh s).trans (congrArg _ (if_pos h))⟩
  | rl => exact ⟨s.maxVelocity, (exec_rl s).trans (congrArg _ (if_pos h))⟩
  | ru => exact ⟨s.maxVelocity, (exec_ru s).trans (congrArg _ (if_pos h))⟩
  | en | di | es | fh | sh | sl | su | sr | ga | gr | gl | gu | gt | gv | poll | reset => exact h.elim

/-- Settles O9, by the two branches of `RA` and the three of `RR`; the ranges of the operands are not needed. -/
theorem rotateWithVelocityArms : Obligations.RotateWithVelocityArms := by
  intro s vel v _ _ _
  refine ⟨fun henabled => ?_, fun hother => ?_, fun henabled hfits => ?_, fun henabled hbeyond => ?_, fun hother => ?_⟩
  · rw [exec_ra, if_pos henabled]
  · rw [exec_ra, if_neg hother, State.reply]
  · rw [exec_rr, if_neg fun hbeyond => hbeyond.2 hfits, if_pos henabled]
  · rw [exec_rr, if_pos ⟨henabled, hbeyond⟩, State.reply]
  · rw [exec_rr, if_neg fun hbeyond => hother hbeyond.1, if_neg hother, State.reply]

/-- Settles O10, by the two branches that `RH`, `RL` and `RU` share. -/
theorem rotateAtHeldVelocityArms : Obligations.RotateAtHeldVelocityArms := by
  intro s
  constructor
  · intro henabled hheld
    rw [exec_rh, exec_rl, exec_ru, if_pos ⟨henabled, hheld⟩, if_pos ⟨henabled, hheld⟩, if_pos ⟨henabled, hheld⟩]
    exact ⟨rfl, rfl, rfl⟩
  · intro hdeclined
    rw [exec_rh, exec_rl, exec_ru, if_neg hdeclined, if_neg hdeclined, if_neg hdeclined, State.reply]
    exact ⟨rfl, rfl, rfl⟩

/-! ### The plan -/

/-- The plan of an armed move is that of its own length, increment and cruise velocity. -/
theorem armed_plan (i : Instr) (s : State) (target : Int) (vmax : Nat) :
    let t := armed i s target vmax
    t.rampSteps = plannedRamp t.totalSteps t.velocityIncrement t.maxVelocity ∧
      t.rampDownStep = plannedDown t.totalSteps t.velocityIncrement t.maxVelocity := by
  unfold armed
  split_ifs <;> exact ⟨rfl, rfl⟩

/-- The ramp reaches no velocity above the cruise velocity. -/
theorem rampLength_mul_le (inc vmax : Nat) : rampLength inc vmax * inc ≤ vmax := by
  unfold rampLength
  split_ifs
  · rw [Nat.zero_mul]
    exact Nat.zero_le vmax
  · exact Nat.div_mul_le_self vmax inc

theorem plan_of_trapezoid {total inc vmax : Nat} (h : total > 2 * rampLength inc vmax) :
    plannedRamp total inc vmax = rampLength inc vmax ∧ plannedDown total inc vmax = total - rampLength inc vmax :=
  ⟨if_pos h, if_pos h⟩

theorem plan_of_triangle {total inc vmax : Nat} (h : ¬ total > 2 * rampLength inc vmax) :
    plannedRamp total inc vmax = total / 2 ∧ plannedDown total inc vmax = total / 2 :=
  ⟨if_neg h, if_neg h⟩

/-- A triangle's ramp is cut short, so no plan's ramp is longer than the ramp to the cruise velocity. -/
theorem plannedRamp_le_rampLength (total inc vmax : Nat) : plannedRamp total inc vmax ≤ rampLength inc vmax := by
  unfold plannedRamp
  split_ifs <;> omega

/-- Settles O11: the command arms, so the plan is that of the fields it leaves. Its two shapes are the trapezoid and the
triangle, and in both the ramp is at most the one that reaches the cruise velocity. -/
theorem everyPlanIsATrapezoidOrATriangle : Obligations.EveryPlanIsATrapezoidOrATriangle := by
  intro i s t haccepted hexec
  obtain ⟨vmax, harmed⟩ := exec_of_accepted haccepted
  cases harmed.symm.trans hexec
  obtain ⟨hramp, hdown⟩ := armed_plan i s (rotateTarget s i) vmax
  generalize armed i s (rotateTarget s i) vmax = t at hramp hdown ⊢
  have hvelocity : t.rampSteps * t.velocityIncrement ≤ t.maxVelocity := by
    rw [hramp]
    exact (Nat.mul_le_mul_right _ (plannedRamp_le_rampLength _ _ _)).trans (rampLength_mul_le _ _)
  by_cases h : t.totalSteps > 2 * rampLength t.velocityIncrement t.maxVelocity
  · obtain ⟨hr, hd⟩ := plan_of_trapezoid h
    rw [hr] at hramp
    rw [hd] at hdown
    exact ⟨by omega, by omega, hvelocity, fun _ => ⟨hramp, by omega, by omega⟩, fun hle => absurd h hle.not_gt⟩
  · obtain ⟨hr, hd⟩ := plan_of_triangle h
    rw [hr] at hramp
    rw [hd] at hdown
    exact ⟨by omega, by omega, hvelocity, fun hgt => absurd hgt h, fun _ => ⟨hramp, hdown, by omega⟩⟩

end Sys2Proof.Claims
end

section
/-! PROOF. The step scheduler (42_step_scheduler.md): one equation for each line of `POLL` that ends it. Each statement
about a due poll collects its lines, the whole poll collects them all, and what a step leaves is said once for all the
lines that follow the commit. -/

namespace Sys2Proof.Claims

open Sys2Proof.Machine

variable {s : State}

/-! ### The lines that end a poll without a step -/

theorem exec_poll (s : State) : exec .poll s = execPoll s := rfl

theorem exec_poll_of_not_due (h : ¬ s.Due) : exec .poll s = .next (s.signal .idle) := by
  rw [exec_poll, execPoll, if_pos h]

theorem exec_poll_of_below (hdue : s.Due) (hlow : s.candidate < s.lowerLimit) :
    exec .poll s = .next (s.endMove .rangeLower) := by
  rw [exec_poll, execPoll, if_neg (not_not.2 hdue), if_pos hlow]

theorem exec_poll_of_above (hdue : s.Due) (hlow : s.lowerLimit ≤ s.candidate) (hup : s.upperLimit < s.candidate) :
    exec .poll s = .next (s.endMove .rangeUpper) := by
  rw [exec_poll, execPoll, if_neg (not_not.2 hdue), if_neg hlow.not_gt, if_pos hup]

/-! ### The step and the lines that follow it -/

/-- The pulse and the commit are the one step of the statements. -/
theorem commitStep_eq_stepped (s : State) : s.commitStep = stepped s := rfl

theorem exec_poll_of_inRange (hdue : s.Due) (hrange : StepInRange s) :
    exec .poll s = .next (stepped s).afterStep := by
  obtain ⟨hlow, hup⟩ := hrange
  rw [exec_poll, execPoll, if_neg (not_not.2 hdue), if_neg (show ¬ s.candidate < s.lowerLimit from hlow.not_gt),
    if_neg (show ¬ s.candidate > s.upperLimit from hup.not_gt), commitStep_eq_stepped]

/-- The commit leaves the switches and the target alone, and the position is the candidate. -/
theorem afterStep_stepped (s : State) : (stepped s).afterStep =
    if s.LowerSwitchTrips then (stepped s).endMove .limitLower
    else if s.UpperSwitchTrips then (stepped s).endMove .limitUpper
    else if s.candidate = s.targetPosition then (stepped s).endMove .complete
    else (stepped s).scheduleNext.signal .stepped := rfl

theorem exec_poll_of_lowerSwitch (hdue : s.Due) (hrange : StepInRange s) (hlower : s.LowerSwitchTrips) :
    exec .poll s = .next ((stepped s).endMove .limitLower) := by
  rw [exec_poll_of_inRange hdue hrange, afterStep_stepped, if_pos hlower]

theorem exec_poll_of_upperSwitch (hdue : s.Due) (hrange : StepInRange s) (hlower : ¬ s.LowerSwitchTrips)
    (hupper : s.UpperSwitchTrips) : exec .poll s = .next ((stepped s).endMove .limitUpper) := by
  rw [exec_poll_of_inRange hdue hrange, afterStep_stepped, if_neg hlower, if_pos hupper]

theorem exec_poll_of_arrival (hdue : s.Due) (hrange : StepInRange s) (hlower : ¬ s.LowerSwitchTrips)
    (hupper : ¬ s.UpperSwitchTrips) (harrived : s.candidate = s.targetPosition) :
    exec .poll s = .next ((stepped s).endMove .complete) := by
  rw [exec_poll_of_inRange hdue hrange, afterStep_stepped, if_neg hlower, if_neg hupper, if_pos harrived]

theorem exec_poll_of_continuing (hdue : s.Due) (hrange : StepInRange s) (hlower : ¬ s.LowerSwitchTrips)
    (hupper : ¬ s.UpperSwitchTrips) (haway : s.candidate ≠ s.targetPosition) :
    exec .poll s = .next ((stepped s).scheduleNext.signal .stepped) := by
  rw [exec_poll_of_inRange hdue hrange, afterStep_stepped, if_neg hlower, if_neg hupper, if_neg haway]

/-- The velocity of the statements is the floored velocity after the commit. -/
theorem flooredVelocity_stepped (s : State) : (stepped s).flooredVelocity = nextVelocity s := rfl

/-- What follows the commit moves no count, makes no event, and returns a result of a step with the position. -/
theorem afterStep_frame (s : State) :
    s.afterStep.absolutePosition = s.absolutePosition ∧ s.afterStep.deltaPosition = s.deltaPosition ∧
      s.afterStep.trace = s.trace ∧
      ∃ sig, s.afterStep.result = .polled sig s.absolutePosition ∧ StepResult s.afterStep.result := by
  rcases afterStep_cases s with ⟨-, h⟩ | ⟨-, -, h⟩ | ⟨-, -, -, h⟩ | ⟨-, -, -, h⟩ <;> rw [h]
  · exact ⟨rfl, rfl, rfl, .limitLower, rfl, _, .inr (.inr (.inl rfl))⟩
  · exact ⟨rfl, rfl, rfl, .limitUpper, rfl, _, .inr (.inr (.inr rfl))⟩
  · exact ⟨rfl, rfl, rfl, .complete, rfl, _, .inr (.inl rfl)⟩
  · exact ⟨rfl, rfl, rfl, .stepped, rfl, _, .inl rfl⟩

/-- The results of a poll that took no step. -/
theorem not_stepResult {sig : Signal} (h : sig = .idle ∨ sig = .rangeLower ∨ sig = .rangeUpper) (pos : Int) :
    ¬ StepResult (.polled sig pos) := by
  rcases h with rfl | rfl | rfl <;> simp

/-! ### The statements -/

/-- Settles O14: the gate's negation is the first line of the poll. -/
theorem pollIsIdleUnlessDue : Obligations.PollIsIdleUnlessDue :=
  fun _ h => exec_poll_of_not_due h

/-- Settles O15. A candidate above the upper limit is not below the lower one, as the limits are in order; and one in
range leads to the step, whose results are no range faults. -/
theorem rangeFaultRefusesTheStep : Obligations.RangeFaultRefusesTheStep := by
  intro s hhomed hrunning hreached horder
  have hdue : s.Due := ⟨hhomed, hrunning, hreached⟩
  refine ⟨fun hlow => exec_poll_of_below hdue hlow, fun hup => ?_, fun hrange t pos h => ?_⟩
  · exact exec_poll_of_above hdue (horder.trans hup.le) hup
  · cases (exec_poll_of_inRange hdue hrange).symm.trans h
    obtain ⟨-, -, -, -, -, hstep⟩ := afterStep_frame (stepped s)
    exact ⟨fun he => not_stepResult (.inr (.inl rfl)) pos (he ▸ hstep),
      fun he => not_stepResult (.inr (.inr rfl)) pos (he ▸ hstep)⟩

/-- Settles O16: the three lines after the commit that end the move, each reached past those before it. -/
theorem switchFaultHidesCompletion : Obligations.SwitchFaultHidesCompletion := by
  intro s hhomed hrunning hreached hrange
  have hdue : s.Due := ⟨hhomed, hrunning, hreached⟩
  exact ⟨exec_poll_of_lowerSwitch hdue hrange, exec_poll_of_upperSwitch hdue hrange, exec_poll_of_arrival hdue hrange⟩

/-- Settles O17: past those three lines the next step is scheduled, at a velocity the floor keeps positive. -/
theorem continuingStepBuildsOnThePreviousDeadline : Obligations.ContinuingStepBuildsOnThePreviousDeadline := by
  intro s hhomed hrunning hreached hrange hlower hupper haway
  constructor
  · rw [← flooredVelocity_stepped]
    exact flooredVelocity_pos (stepped s)
  · exact exec_poll_of_continuing ⟨hhomed, hrunning, hreached⟩ hrange hlower hupper haway

/-- Settles O13, line by line: each branch of `pollResult` is the equation of the line that ends the poll there. -/
theorem pollRunsItsElevenLines : Obligations.PollRunsItsElevenLines := by
  intro s
  simp only [pollResult]
  split_ifs with hdue hlow hup hlower hupper harrived
  · exact exec_poll_of_below hdue hlow
  · exact exec_poll_of_above hdue (not_lt.1 hlow) hup
  · exact exec_poll_of_lowerSwitch hdue ⟨not_lt.1 hlow, not_lt.1 hup⟩ hlower
  · exact exec_poll_of_upperSwitch hdue ⟨not_lt.1 hlow, not_lt.1 hup⟩ hlower hupper
  · exact exec_poll_of_arrival hdue ⟨not_lt.1 hlow, not_lt.1 hup⟩ hlower hupper harrived
  · exact exec_poll_of_continuing hdue ⟨not_lt.1 hlow, not_lt.1 hup⟩ hlower hupper harrived
  · exact exec_poll_of_not_due hdue

/-- Settles O19. Idle and a range fault move nothing; a step has moved both counts by its pulse when it is committed, and
what follows the commit moves nothing more. -/
theorem pollMovesBothCountsWithItsPulse : Obligations.PollMovesBothCountsWithItsPulse := by
  intro s t h
  rcases exec_poll_cases s with ⟨-, he⟩ | ⟨-, -, he⟩ | ⟨-, -, -, he⟩ | ⟨-, -, -, he⟩ <;> cases he.symm.trans h
  · exact ⟨⟨_, rfl⟩, .inr ⟨not_stepResult (.inl rfl) _, rfl, rfl, rfl⟩⟩
  · exact ⟨⟨_, rfl⟩, .inr ⟨not_stepResult (.inr (.inl rfl)) _, rfl, rfl, rfl⟩⟩
  · exact ⟨⟨_, rfl⟩, .inr ⟨not_stepResult (.inr (.inr rfl)) _, rfl, rfl, rfl⟩⟩
  · obtain ⟨habs, hdelta, htrace, sig, hresult, hstep⟩ := afterStep_frame s.commitStep
    exact ⟨⟨sig, habs ▸ hresult⟩, .inl ⟨hstep, habs, hdelta, htrace⟩⟩

end Sys2Proof.Claims
end

section
/-! PROOF. The queries and the dispatcher (43_queries_dispatch.md): the queries by the equation of each (R191 to R196), a
declined command by the branch of its operation that only replies (R200), a text that is no command by the equation of
the step that meets it (R198). -/

namespace Sys2Proof.Claims

open Sys2Proof.Machine

/-! ### The operations, over `State.reply` -/

theorem exec_ga (s : State) : exec .ga s = .next (s.reply (.number s.absolutePosition)) := rfl

theorem exec_gr (s : State) : exec .gr s = .next (s.reply (.number s.deltaPosition)) := rfl

theorem exec_gl (s : State) : exec .gl s = .next (s.reply (.number s.lowerLimit)) := rfl

theorem exec_gu (s : State) : exec .gu s = .next (s.reply (.number s.upperLimit)) := rfl

theorem exec_gv (s : State) : exec .gv s = .next (s.reply .version) := rfl

theorem exec_fh (s : State) : exec .fh s =
    .next (if s.state = .enabled ∧ s.params.llsConfigured = true then
        State.homingRun (s.inputs.lls.script.length + 1) s.homingStart
      else s.reply .empty) := rfl

/-- Settles O28: each query is a reply, which writes no field but the result. -/
theorem queriesReplyAndChangeNothing : Obligations.QueriesReplyAndChangeNothing :=
  fun s => ⟨exec_ga s, exec_gr s, exec_gl s, exec_gu s, exec_gv s⟩

/-- Settles O32, command by command: what declines it is the negation of its operation's guard, and the other branch is
the reply `Empty`. `RR` outside `ENABLED` does not come to the range test of its sum. -/
theorem declinedCommandsReplyEmptyAndChangeNothing : Obligations.DeclinedCommandsReplyEmptyAndChangeNothing := by
  rintro s i (⟨v, rfl, hdropped⟩ | ⟨v, rfl, hdropped⟩ | ⟨rfl, hother⟩ | ⟨⟨vel, v, rfl | rfl⟩, hother⟩ |
    ⟨hheld, hdeclined⟩ | ⟨rfl, hdeclined⟩)
  · rw [exec_sl, if_neg hdropped, State.reply]
  · rw [exec_su, if_neg hdropped, State.reply]
  · exact (setHomeActsOnlyWhenEnabled s).2 hother
  · rw [exec_ra, if_neg hother, State.reply]
  · rw [exec_rr, if_neg fun hbeyond => hother hbeyond.1, if_neg hother, State.reply]
  · have hguard : ¬ (s.state = .enabled ∧ s.maxVelocity ≠ 0) := by
      rwa [not_and_or, not_ne_iff]
    obtain ⟨hrh, hrl, hru⟩ := (rotateAtHeldVelocityArms s).2 hguard
    rcases hheld with rfl | rfl | rfl
    · exact hrh
    · exact hrl
    · exact hru
  · have hguard : ¬ (s.state = .enabled ∧ s.params.llsConfigured = true) := by
      rwa [not_and_or, Bool.not_eq_true]
    rw [exec_fh, if_neg hguard, State.reply]

/-! ### The step -/

/-- Outside an unfinished `FH` a request that does not decode is presented and answered with its protocol error. -/
theorem step_of_decode_error {s : State} {p : Presented} {later : List Presented} {kind : ProtocolError}
    (hreturned : s.homing = none) (hinbox : s.inbox = p :: later) (hdecode : decode p.request = .error kind) :
    step s = .next ((s.present p later).protocolError kind) := by
  simp only [step, hreturned, hinbox, hdecode]

/-- The inputs handed over with a command stand at the lines. -/
theorem inputsAt_cmd (s : State) (text : List Byte) (inp : Inputs) :
    s.inputsAt { request := .cmd text, inputs := inp } = inp := rfl

/-- Settles O39: the step presents the text and answers its protocol error. Presenting writes the inputs and the inbox,
and the answer is a reply. -/
theorem illegalTextIsAnsweredAndChangesNothing : Obligations.IllegalTextIsAnsweredAndChangesNothing := by
  intro s text inp later kind hreturned hinbox hdecode
  rw [step_of_decode_error hreturned hinbox hdecode, State.present, inputsAt_cmd, State.protocolError, State.reply]

end Sys2Proof.Claims
end

section
/-! PROOF. Homing (44_homing.md R211 to R213): each of the two loops is a run of pulses, one per sample of the level it
runs on; between them the direction turns, and the first clear sample after the turn sets home. -/

namespace Sys2Proof.Claims

open Sys2Proof.Machine

/-! ### One loop -/

/-- Where a homing loop stands after `n` pulses of `d`, when the samples `more` are still listed. -/
def afterPulses (s : State) (d : StepIncrement) (n : Nat) (more : List SwitchLevel) : State :=
  { s with
    inputs := { s.inputs with lls := { s.inputs.lls with script := more } }
    outStep := if n = 0 then s.outStep else .inactive
    trace := s.trace ++ List.replicate n (entry .fh s (.stepPulse d)) }

/-- The pulse a sample gives comes first in the pulses of a loop. -/
theorem afterPulses_pulse (s : State) (d : StepIncrement) (n : Nat) (more : List SwitchLevel) :
    afterPulses (s.takeSample.pulse .fh d) d n more = afterPulses s d (n + 1) more := by
  simp [afterPulses, State.takeSample, State.pulse, State.emit, SampleStream.tail, entry, List.replicate_succ]

/-- A loop whose samples of `level` each pulse `d` takes `n` of them with `n` pulses, and is in the loop still. -/
theorem homingRun_pulses {phase : HomingPhase} {level : SwitchLevel} {d : StepIncrement}
    (hpulse : ∀ s : State, s.homing = some phase → s.inputs.lls.head = level →
      s.homingIteration = s.takeSample.pulse .fh d)
    (n fuel : Nat) (more : List SwitchLevel) (s : State) (hphase : s.homing = some phase)
    (hscript : s.inputs.lls.script = List.replicate n level ++ more) :
    State.homingRun (fuel + n) s = State.homingRun fuel (afterPulses s d n more) := by
  induction n generalizing s with
  | zero =>
    have hmore : more = s.inputs.lls.script := by simp [hscript]
    simp [afterPulses, hmore]
  | succ n ih =>
    have hhead : s.inputs.lls.head = level := by simp [SampleStream.head, hscript, List.replicate_succ]
    have hrest : (s.takeSample.pulse .fh d).inputs.lls.script = List.replicate n level ++ more := by
      simp [SampleStream.tail, hscript, List.replicate_succ]
    rw [← Nat.add_assoc, homingRun_succ _ _ (by simp [hphase]), hpulse s hphase hhead,
      ih (s.takeSample.pulse .fh d) hphase hrest, afterPulses_pulse]

/-- The state at the end of a seek of `a` pulses: the direction has turned, the samples `more` are still listed. -/
def afterSeek (s : State) (a : Nat) (more : List SwitchLevel) : State :=
  ({ afterPulses s .minus a more with homing := some .backOff } : State).driveDir .fh .fwd

/-- The state at the end of a back-off of `b` pulses: home is set, the reply given, the samples `later` still listed. -/
def afterBackOff (s : State) (b : Nat) (later : List SwitchLevel) : State :=
  (({ afterPulses s .plus b later with homing := none } : State).setHome).reply .empty

/-- The seek loop passes its clear samples and ends at the triggered one, where the direction turns. -/
theorem homingRun_seek (a fuel : Nat) (more : List SwitchLevel) (s : State) (hphase : s.homing = some .seek)
    (hscript : s.inputs.lls.script = List.replicate a .clear ++ .triggered :: more) :
    State.homingRun (fuel + 1 + a) s = State.homingRun fuel (afterSeek s a more) := by
  have hseek : (afterPulses s .minus a (.triggered :: more)).homing = some .seek := hphase
  rw [homingRun_pulses homingIteration_seek_clear a (fuel + 1) _ s hphase hscript,
    homingRun_succ _ _ (by simp [hseek]), homingIteration_seek_triggered _ hseek rfl]
  rfl

/-- The back-off loop passes its triggered samples and ends at the clear one, where home is set and `FH` returns. -/
theorem homingRun_backOff (b fuel : Nat) (last : List SwitchLevel) (s : State) (hphase : s.homing = some .backOff)
    (hscript : s.inputs.lls.script = List.replicate b .triggered ++ last)
    (hclear : last.headD s.inputs.lls.rest = .clear) :
    State.homingRun (fuel + 1 + b) s = afterBackOff s b last.tail := by
  have hback : (afterPulses s .plus b last).homing = some .backOff := hphase
  rw [homingRun_pulses homingIteration_backOff_triggered b (fuel + 1) _ s hphase hscript,
    homingRun_succ _ _ (by simp [hback]), homingIteration_backOff_clear _ hback hclear, homingRun_returned _ _ rfl]
  rfl

/-! ### The operation -/

/-- `FH` when the samples after the two loops' own, listed or not, begin with a clear one. -/
theorem exec_fh_of_release (s : State) (a b : Nat) (last : List SwitchLevel) (henabled : s.state = .enabled)
    (hswitch : s.params.llsConfigured = true)
    (hscript : s.inputs.lls.script = List.replicate a .clear ++ .triggered :: (List.replicate b .triggered ++ last))
    (hclear : last.headD s.inputs.lls.rest = .clear) :
    exec .fh s = .next
      (afterBackOff (afterSeek s.homingStart a (List.replicate b .triggered ++ last)) b last.tail) := by
  have hfuel : s.inputs.lls.script.length + 1 = last.length + 1 + b + 1 + a := by
    simp [hscript]; omega
  rw [exec_fh, if_pos ⟨henabled, hswitch⟩, hfuel, homingRun_seek a _ _ s.homingStart rfl hscript,
    homingRun_backOff b _ last (afterSeek s.homingStart a _) rfl rfl hclear]

/-- Settles O33. Both forms of the stream are one: the samples left after the back-off begin with a clear one, listed or
not. What the two loops, the turn and the set-home operation write is then compared field by field; the
step line is as before when neither loop pulsed (`ite_and`). -/
theorem findHomeSeeksAndBacksOff : Obligations.FindHomeSeeksAndBacksOff := by
  intro s a b later henabled hswitch hstream
  obtain ⟨last, hscript, hclear, rfl⟩ : ∃ last,
      s.inputs.lls.script = List.replicate a .clear ++ .triggered :: (List.replicate b .triggered ++ last) ∧
        last.headD s.inputs.lls.rest = .clear ∧ last.tail = later := by
    rcases hstream with hlisted | ⟨hunlisted, hrest, rfl⟩
    · exact ⟨.clear :: later, hlisted, rfl, rfl⟩
    · exact ⟨[], by simpa using hunlisted, hrest, rfl⟩
  rw [exec_fh_of_release s a b last henabled hswitch hscript hclear]
  simp [and_comm (a := a = 0), ite_and, afterBackOff, afterSeek, afterPulses, State.homingStart, State.driveDir,
    State.emit, State.setHome, State.reply, entry]

end Sys2Proof.Claims
end

section
/-! PROOF. The transition table (60_exceptions.md R236). The mode is written by `EN`, `DI`, `ES` and `RESET`, by the launch
of an accepted rotate command and by the end of a move in a poll; each row is read off the equation of its operation. -/

namespace Sys2Proof.Claims

open Sys2Proof.Machine

variable {s t : State} {i : Instr}

/-! ### The rotate commands -/

/-- Arming changes the mode exactly when it launches a move. -/
theorem armed_state (i : Instr) (s : State) (target : Int) (vmax : Nat) :
    (armed i s target vmax).state = if target = s.absolutePosition then s.state else .running := by
  unfold armed
  split_ifs <;> rfl

/-- What declines `RR` is the mode, or the range of its sum; either way it only replies. -/
theorem exec_rr_of_declined {vel : Nat} {count : Int} (hdeclined : ¬ Accepted s (.rr vel count)) :
    ∃ r, exec (.rr vel count) s = .next (s.reply r) := by
  rw [exec_rr]
  by_cases henabled : s.state = .enabled
  · exact ⟨_, congrArg _ (if_pos ⟨henabled, fun hfits => hdeclined ⟨henabled, hfits⟩⟩)⟩
  · rw [if_neg fun hbeyond => henabled hbeyond.1]
    exact ⟨_, congrArg _ (if_neg henabled)⟩

/-- The row of a rotate command, once it only replies where it is declined. -/
theorem rotateMode_of_exec (hdeclined : ¬ Accepted s i → ∃ r, exec i s = .next (s.reply r))
    (h : exec i s = .next t) : RotateMode s t i := by
  by_cases haccepted : Accepted s i
  · obtain ⟨vmax, harmed⟩ := exec_of_accepted haccepted
    cases harmed.symm.trans h
    constructor
    · intro hlaunched
      rw [armed_state, if_neg hlaunched.2]
    · intro hhere
      rw [armed_state, if_pos (by_contra fun haway => hhere ⟨haccepted, haway⟩)]
  · obtain ⟨r, hreply⟩ := hdeclined haccepted
    cases hreply.symm.trans h
    exact ⟨fun hlaunched => absurd hlaunched.1 haccepted, fun _ => reply_state s r⟩

/-! ### The poll -/

/-- A step ends the move, or the move goes on in the mode it was in. -/
theorem afterStep_mode (s : State) :
    (EndResult s.afterStep.result ∧ s.afterStep.state = .enabled) ∨
      ((∃ pos, s.afterStep.result = .polled .stepped pos) ∧ s.afterStep.state = s.state) := by
  rcases afterStep_cases s with ⟨-, h⟩ | ⟨-, -, h⟩ | ⟨-, -, -, h⟩ | ⟨-, -, -, h⟩ <;> rw [h]
  · exact .inl ⟨⟨_, .inr (.inr (.inr (.inl rfl)))⟩, rfl⟩
  · exact .inl ⟨⟨_, .inr (.inr (.inr (.inr rfl)))⟩, rfl⟩
  · exact .inl ⟨⟨_, .inl rfl⟩, rfl⟩
  · exact .inr ⟨⟨_, rfl⟩, rfl⟩

/-- The row of the poll: only a due poll ends a move, and the gate has it `RUNNING`. -/
theorem modeRow_poll (h : exec .poll s = .next t) : ModeRow s t .poll := by
  rcases exec_poll_cases s with ⟨-, he⟩ | ⟨⟨-, hrunning, -⟩, -, he⟩ | ⟨⟨-, hrunning, -⟩, -, -, he⟩ |
    ⟨⟨-, hrunning, -⟩, -, -, he⟩ <;> cases he.symm.trans h
  · exact .inr ⟨⟨_, .inl rfl⟩, rfl⟩
  · exact .inl ⟨⟨_, .inr (.inl rfl)⟩, hrunning, rfl⟩
  · exact .inl ⟨⟨_, .inr (.inr (.inl rfl))⟩, hrunning, rfl⟩
  · rcases afterStep_mode s.commitStep with ⟨hend, henabled⟩ | ⟨⟨pos, hstepped⟩, hstate⟩
    · exact .inl ⟨hend, hrunning, henabled⟩
    · exact .inr ⟨⟨pos, .inr hstepped⟩, hstate⟩

/-! ### The operations that leave the mode -/

/-- The setters' shape: an update that leaves the mode, or nothing, and then a reply. -/
theorem state_of_setOrDrop {c : Prop} [Decidable c] {u : State} {r : Reply}
    (hexec : exec i s = .next ((if c then u else s).reply r)) (hu : u.state = s.state) (h : exec i s = .next t) :
    t.state = s.state := by
  cases hexec.symm.trans h
  rw [reply_state, apply_ite State.state, hu, ite_self]

theorem state_of_reply {r : Reply} (hexec : exec i s = .next (s.reply r)) (h : exec i s = .next t) :
    t.state = s.state := by
  cases hexec.symm.trans h
  exact reply_state s r

/-- Homing, returned or not, and a declined `FH` leave the mode. -/
theorem exec_fh_state (h : exec .fh s = .next t) : t.state = s.state := by
  cases (exec_fh s).symm.trans h
  split_ifs
  · exact (homingRun_frame _ s.homingStart).state
  · rfl

/-! ### The table -/

/-- Every operation keeps to its row. -/
theorem modeRow_exec (h : exec i s = .next t) : ModeRow s t i := by
  cases i with
  | en => cases (exec_en s).symm.trans h; rfl
  | di => cases (exec_di s).symm.trans h; rfl
  | es => cases h; rfl
  | reset => cases (exec_reset s).symm.trans h; rfl
  | ra vel target =>
    exact rotateMode_of_exec (fun hn => ⟨_, (exec_ra s vel target).trans (congrArg _ (if_neg hn))⟩) h
  | rr vel count => exact rotateMode_of_exec exec_rr_of_declined h
  | rh => exact rotateMode_of_exec (fun hn => ⟨_, (exec_rh s).trans (congrArg _ (if_neg hn))⟩) h
  | rl => exact rotateMode_of_exec (fun hn => ⟨_, (exec_rl s).trans (congrArg _ (if_neg hn))⟩) h
  | ru => exact rotateMode_of_exec (fun hn => ⟨_, (exec_ru s).trans (congrArg _ (if_neg hn))⟩) h
  | poll => exact modeRow_poll h
  | sh => exact state_of_setOrDrop (exec_sh s) (setHome_state s) h
  | fh => exact exec_fh_state h
  | sl v => exact state_of_setOrDrop (exec_sl s v) rfl h
  | su v => exact state_of_setOrDrop (exec_su s v) rfl h
  | sr r => exact state_of_setOrDrop (exec_sr s r) rfl h
  | ga => exact state_of_reply (exec_ga s) h
  | gr => exact state_of_reply (exec_gr s) h
  | gl => exact state_of_reply (exec_gl s) h
  | gu => exact state_of_reply (exec_gu s) h
  | gt => exact state_of_reply (r := .number s.remTime) rfl h
  | gv => exact state_of_reply (exec_gv s) h

/-- Settles O49: the operations by `modeRow_exec`; a protocol error is presented and answered, and neither writes the
mode. -/
theorem modeFollowsTheTransitionTable : Obligations.ModeFollowsTheTransitionTable := by
  refine ⟨fun i s t h => modeRow_exec h, ?_⟩
  intro s t p later kind hreturned hinbox hdecode h
  cases (step_of_decode_error hreturned hinbox hdecode).symm.trans h
  rw [protocolError_state, present_state]

end Sys2Proof.Claims
end

section
/-! PROOF. What an operation can do, said once. `Effect s i t` has one constructor for each outcome of an operation from
`s`, with the guard that leads there; every later statement about all operations is a case split over it. -/

namespace Sys2Proof.Claims

open Sys2Proof.Machine

variable {s t : State} {i : Instr}

/-- The cruise velocity a rotate command arms with: its operand, or the one held (41_ramp_planner.md R146 to R150). -/
def rotateVelocity (s : State) : Instr → Nat
  | .ra vel _ => vel
  | .rr vel _ => vel
  | _ => s.maxVelocity

theorem exec_eq_armed (h : Accepted s i) :
    exec i s = .next (armed i s (rotateTarget s i) (rotateVelocity s i)) := by
  cases i with
  | ra vel target => exact (exec_ra s vel target).trans (congrArg _ (if_pos h))
  | rr vel count =>
    obtain ⟨henabled, hfits⟩ := h
    rw [exec_rr, if_neg fun hbeyond => hbeyond.2 hfits, if_pos henabled, rotateTarget, rotateVelocity]
  | rh => exact (exec_rh s).trans (congrArg _ (if_pos h))
  | rl => exact (exec_rl s).trans (congrArg _ (if_pos h))
  | ru => exact (exec_ru s).trans (congrArg _ (if_pos h))
  | en | di | es | fh | sh | sl | su | sr | ga | gr | gl | gu | gt | gv | poll | reset => exact h.elim

/-- Only an enabled controller accepts a rotate command. -/
theorem Accepted.enabled (h : Accepted s i) : s.state = .enabled := by
  cases i with
  | ra => exact h
  | rr | rh | rl | ru => exact h.1
  | en | di | es | fh | sh | sl | su | sr | ga | gr | gl | gu | gt | gv | poll | reset => exact h.elim

/-- The outcomes of an operation. -/
inductive Effect (s : State) : Instr → State → Prop
  /-- A query, or a command that is declined: it replies. -/
  | reply (i : Instr) (r : Reply) (hdeclined : ¬ Accepted s i) : Effect s i (s.reply r)
  | en : Effect s .en (({ s.driveEn .en .active with state := .enabled } : State).setHome.reply .empty)
  | di : Effect s .di (({ s.driveEn .di .inactive with state := .disabled } : State).clearHomed.reply .empty)
  | es : Effect s .es (({ (({ (s.driveStep .es .inactive).driveEn .es .inactive with
      state := .estopped } : State).clearHomed) with targetPosition := s.absolutePosition } : State).reply .empty)
  | sh (henabled : s.state = .enabled) : Effect s .sh (s.setHome.reply .empty)
  | sl (v : Int) (hv : v ≤ 0 ∧ v ≤ s.upperLimit) :
      Effect s (.sl v) (({ s with lowerLimit := v } : State).reply .empty)
  | su (v : Int) (hv : 0 ≤ v ∧ s.lowerLimit ≤ v) :
      Effect s (.su v) (({ s with upperLimit := v } : State).reply .empty)
  | sr (r : Nat) (hr : r ≤ 9) :
      Effect s (.sr r) (({ s with velocityIncrement := s.params.vinc r } : State).reply .empty)
  /-- An accepted rotate command arms. -/
  | arm (i : Instr) (haccepted : Accepted s i) :
      Effect s i (armed i s (rotateTarget s i) (rotateVelocity s i))
  | fh (henabled : s.state = .enabled) (hswitch : s.params.llsConfigured = true) :
      Effect s .fh (State.homingRun (s.inputs.lls.script.length + 1) s.homingStart)
  | idle (hidle : ¬ s.Due) : Effect s .poll (s.signal .idle)
  /-- A range fault: the step is refused. -/
  | refused (sig : Signal) (hdue : s.Due) (hsig : sig = .rangeLower ∨ sig = .rangeUpper) :
      Effect s .poll (s.endMove sig)
  /-- A step that ends the move, at a switch or at the target. -/
  | ended (sig : Signal) (hdue : s.Due) (hrange : StepInRange s)
      (hsig : sig = .complete ∨ sig = .limitLower ∨ sig = .limitUpper) : Effect s .poll ((stepped s).endMove sig)
  /-- A step after which the move goes on. -/
  | continued (hdue : s.Due) (hrange : StepInRange s) (haway : s.candidate ≠ s.targetPosition) :
      Effect s .poll ((stepped s).scheduleNext.signal .stepped)
  | reset : Effect s .reset { State.construct s.params with
      inputs := s.inputs
      inbox := s.inbox
      trace := s.trace ++ resetEvents }

theorem effect_of_reply {r : Reply} (hdeclined : ¬ Accepted s i) (hexec : exec i s = .next (s.reply r))
    (h : exec i s = .next t) : Effect s i t := by
  cases hexec.symm.trans h
  exact .reply i r hdeclined

/-- A rotate command that only replies where it is declined arms or replies. -/
theorem effect_of_rotate (hdeclined : ¬ Accepted s i → ∃ r, exec i s = .next (s.reply r))
    (h : exec i s = .next t) : Effect s i t := by
  by_cases haccepted : Accepted s i
  · cases (exec_eq_armed haccepted).symm.trans h
    exact .arm i haccepted
  · obtain ⟨r, hreply⟩ := hdeclined haccepted
    exact effect_of_reply haccepted hreply h

/-- The setters' shape: the update where the guard holds, else nothing, and then the reply. -/
theorem effect_of_setOrDrop {c : Prop} [Decidable c] {u : State} (hdeclined : ¬ Accepted s i)
    (hexec : exec i s = .next ((if c then u else s).reply .empty)) (hset : c → Effect s i (u.reply .empty))
    (h : exec i s = .next t) : Effect s i t := by
  cases hexec.symm.trans h
  split_ifs with hc
  · exact hset hc
  · exact .reply i .empty hdeclined

theorem effect_of_poll (h : exec .poll s = .next t) : Effect s .poll t := by
  rcases exec_poll_cases s with ⟨hidle, he⟩ | ⟨hdue, -, he⟩ | ⟨hdue, -, -, he⟩ | ⟨hdue, hlow, hup, he⟩ <;>
    cases he.symm.trans h
  · exact .idle hidle
  · exact .refused .rangeLower hdue (.inl rfl)
  · exact .refused .rangeUpper hdue (.inr rfl)
  · rw [commitStep_eq_stepped]
    have hrange : StepInRange s := ⟨hlow, hup⟩
    rcases afterStep_cases (stepped s) with ⟨-, hs⟩ | ⟨-, -, hs⟩ | ⟨-, -, -, hs⟩ | ⟨-, -, haway, hs⟩ <;> rw [hs]
    · exact .ended .limitLower hdue hrange (.inr (.inl rfl))
    · exact .ended .limitUpper hdue hrange (.inr (.inr rfl))
    · exact .ended .complete hdue hrange (.inl rfl)
    · exact .continued hdue hrange haway

/-- An operation has one of the effects. -/
theorem effect_of_exec (h : exec i s = .next t) : Effect s i t := by
  cases i with
  | en => cases (exec_en s).symm.trans h; exact .en
  | di => cases (exec_di s).symm.trans h; exact .di
  | es => cases h; exact .es
  | reset => cases (exec_reset s).symm.trans h; exact .reset
  | poll => exact effect_of_poll h
  | fh =>
    cases (exec_fh s).symm.trans h
    split_ifs with hguard
    · exact .fh hguard.1 hguard.2
    · exact .reply .fh .empty id
  | sh => exact effect_of_setOrDrop id (exec_sh s) .sh h
  | sl v => exact effect_of_setOrDrop id (exec_sl s v) (.sl v) h
  | su v => exact effect_of_setOrDrop id (exec_su s v) (.su v) h
  | sr r => exact effect_of_setOrDrop id (exec_sr s r) (.sr r) h
  | ra vel target => exact effect_of_rotate (fun hn => ⟨_, (exec_ra s vel target).trans (congrArg _ (if_neg hn))⟩) h
  | rr vel count => exact effect_of_rotate exec_rr_of_declined h
  | rh => exact effect_of_rotate (fun hn => ⟨_, (exec_rh s).trans (congrArg _ (if_neg hn))⟩) h
  | rl => exact effect_of_rotate (fun hn => ⟨_, (exec_rl s).trans (congrArg _ (if_neg hn))⟩) h
  | ru => exact effect_of_rotate (fun hn => ⟨_, (exec_ru s).trans (congrArg _ (if_neg hn))⟩) h
  | ga => exact effect_of_reply id (exec_ga s) h
  | gr => exact effect_of_reply id (exec_gr s) h
  | gl => exact effect_of_reply id (exec_gl s) h
  | gu => exact effect_of_reply id (exec_gu s) h
  | gt => exact effect_of_reply (r := .number s.remTime) id rfl h
  | gv => exact effect_of_reply id (exec_gv s) h

end Sys2Proof.Claims
end

section
/-! PROOF. The decoder and the encoder (30_encoding.md, 43_queries_dispatch.md R190). A command is its code's row of the
code map and the fields after it, so each statement is one about `decodeArgs` at the format of the row. -/

namespace Sys2Proof

/-! ### The code map -/

/-- The code of two letters picks the format that reads the rest. -/
theorem decodeText_of_lookup {c0 c1 : Byte} {f : Format} (h : codeTable.lookup (opcodeOf c0 c1) = some f)
    (args : List Byte) : decodeText (c0 :: c1 :: args) = decodeArgs f args := by
  simp only [decodeText, h]

theorem decodeText_of_lookup_none {c0 c1 : Byte} (h : codeTable.lookup (opcodeOf c0 c1) = none) (args : List Byte) :
    decodeText (c0 :: c1 :: args) = .error .unknownCode := by
  simp only [decodeText, h]

/-- The two letters of a 16-bit opcode spell it. -/
theorem opcodeOf_codeBytes {k : Nat} (hk : k < 65536) :
    opcodeOf (BitVec.ofNat 8 (k / 256)) (BitVec.ofNat 8 k) = k := by
  simp only [opcodeOf, BitVec.toNat_ofNat]
  omega

/-- A command built from an opcode is read by the format of its row. -/
theorem decode_commandOf {k : Nat} {f : Format} (hk : k < 65536) (h : codeTable.lookup k = some f)
    (args : List Byte) : decode (commandOf k args) = decodeArgs f args := by
  rw [← opcodeOf_codeBytes hk] at h
  exact decodeText_of_lookup h args

/-! ### The fields -/

theorem decodeArgs_n (i : Instr) (args : List Byte) :
    decodeArgs (.n i) args = if args = [] then .ok i else .error .missingArg := rfl

theorem decodeArgs_i {v : Int} {args : List Byte} (make : Int → Instr) (h : decodeSint args = some v) :
    decodeArgs (.i make) args = if FitsPos v then .ok (make v) else .error .range := by
  simp only [decodeArgs, h]

theorem decodeArgs_i_none {args : List Byte} (make : Int → Instr) (h : decodeSint args = none) :
    decodeArgs (.i make) args = .error .missingArg := by
  simp only [decodeArgs, h]

theorem decodeArgs_d {d : Nat} (make : Nat → Instr) (h : d < 10) :
    decodeArgs (.d make) [digitByte d] = .ok (make d) := by
  simp only [decodeArgs, digitValue_digitByte h]

/-- A `V` command whose first four bytes are no velocity field. -/
theorem decodeArgs_v_illFormed {args : List Byte} (make : Nat → Int → Instr)
    (h : ∀ vel ≤ 9999, args.take 4 ≠ renderVel vel) : decodeArgs (.v make) args = .error .missingArg := by
  match args, h with
  | [], _ | [_], _ | [_, _], _ | [_, _, _], _ => rfl
  | d3 :: d2 :: d1 :: d0 :: rest, h =>
    have hnone : digitsFrom 0 [d3, d2, d1, d0] = none := by
      by_contra hsome
      obtain ⟨vel, hvel⟩ := Option.ne_none_iff_exists'.1 hsome
      obtain ⟨hle, hfield⟩ := digitsFrom_vel hvel
      exact h vel hle hfield
    simp only [decodeArgs, hnone]

/-! ### Encoding and decoding -/

/-- A field in its shortest spelling is read back. -/
theorem decode_sintCommand {k : Nat} {make : Int → Instr} (hk : k < 65536)
    (hrow : codeTable.lookup k = some (.i make)) {v : Int} (hv : FitsPos v) :
    decode (commandOf k (renderInt v)) = .ok (make v) := by
  rw [decode_commandOf hk hrow, decodeArgs_i make (decodeSint_renderInt v hv), if_pos hv]

theorem decode_velocityCommand {k : Nat} {make : Nat → Int → Instr} (hk : k < 65536)
    (hrow : codeTable.lookup k = some (.v make)) {vel : Nat} {v : Int} (h : 1 ≤ vel ∧ vel ≤ 9999 ∧ FitsPos v) :
    decode (commandOf k (renderVel vel ++ renderInt v)) = .ok (make vel v) := by
  obtain ⟨hpos, hle, hv⟩ := h
  rw [decode_commandOf hk hrow, decodeArgs_v make vel _ hle, decodeSint_renderInt v hv]
  exact if_neg (not_or.2 ⟨by omega, not_not.2 hv⟩)

/-- Settles O42, operation by operation: a code without fields is its row of the code map, the fields of the others are
read back from their rendering. -/
theorem encodeThenDecodeGivesTheOperation : Obligations.EncodeThenDecodeGivesTheOperation := by
  intro i hwf
  cases i with
  | sl v => exact decode_sintCommand (by decide) rfl (of_decide_eq_true hwf)
  | su v => exact decode_sintCommand (by decide) rfl (of_decide_eq_true hwf)
  | sr r =>
    have hr : r ≤ 9 := of_decide_eq_true hwf
    exact (decode_commandOf (by decide) rfl [digitByte r]).trans (decodeArgs_d _ (by omega))
  | ra vel target => exact decode_velocityCommand (by decide) rfl (of_decide_eq_true hwf)
  | rr vel count => exact decode_velocityCommand (by decide) rfl (of_decide_eq_true hwf)
  | en | di | es | fh | sh | rh | rl | ru | ga | gr | gl | gu | gt | gv | poll | reset => rfl

/-- A format makes well-formed operations of fields in range. -/
def Format.Sound : Format → Prop
  | .n op => op.WellFormed
  | .i make => ∀ v, FitsPos v → (make v).WellFormed
  | .d make => ∀ r ≤ 9, (make r).WellFormed
  | .v make => ∀ vel v, 1 ≤ vel ∧ vel ≤ 9999 ∧ FitsPos v → (make vel v).WellFormed

theorem codeTable_sound : ∀ row ∈ codeTable, row.2.Sound := by
  simp +contextual [codeTable, Format.Sound, Instr.WellFormed, Instr.wellFormed]

/-- The fields a sound format accepts are in range. -/
theorem decodeArgs_wellFormed {f : Format} {args : List Byte} {i : Instr} (hf : f.Sound)
    (h : decodeArgs f args = .ok i) : i.WellFormed := by
  cases f with
  | n op =>
    rw [decodeArgs_n] at h
    split_ifs at h
    cases h
    exact hf
  | d make =>
    simp only [decodeArgs] at h
    split at h
    · cases h
    · split at h
      · rename_i r hr
        cases h
        exact hf r (Nat.le_of_lt_succ (digitValue_some hr).1)
      · cases h
    · cases h
  | i make =>
    simp only [decodeArgs] at h
    split at h
    · split_ifs at h with hv
      cases h
      exact hf _ hv
    · cases h
  | v make =>
    simp only [decodeArgs] at h
    split at h
    · split at h
      · rename_i vel v hvel _
        split_ifs at h with hrange
        cases h
        obtain ⟨hpos, hv⟩ := not_or.1 hrange
        exact hf vel v ⟨Nat.one_le_iff_ne_zero.2 hpos, (digitsFrom_vel hvel).1, not_not.1 hv⟩
      · cases h
    · cases h

theorem decodeText_wellFormed {text : List Byte} {i : Instr} (h : decodeText text = .ok i) : i.WellFormed := by
  unfold decodeText at h
  split at h
  · split at h
    · rename_i f hrow
      exact decodeArgs_wellFormed (codeTable_sound _ (codeTable_lookup_some hrow)) h
    · cases h
  · cases h

/-- Settles O43: a poll and a reset have no fields, and every row of the code map is sound. -/
theorem decodedOperationsAreWellFormed : Obligations.DecodedOperationsAreWellFormed := by
  intro r i h
  cases r with
  | reset => cases h; rfl
  | poll => cases h; rfl
  | cmd text => exact decodeText_wellFormed h

/-! ### Signed integers -/

/-- The digits of `ds`, most significant first, as bytes and as a value. -/
theorem decodeDigits_iff {bs : List Byte} {v : Int} {f : Nat → Int} :
    (decodeDigits bs).map f = some v ↔
      ∃ ds : List Nat, (∀ d ∈ ds, d < 10) ∧ 1 ≤ ds.length ∧ ds.length ≤ 10 ∧ bs = ds.map digitByte ∧
        v = f (Nat.ofDigits 10 ds.reverse) := by
  simp only [Option.map_eq_some_iff, decodeDigits_eq_some]
  constructor
  · rintro ⟨n, ⟨ds, hdigits, hpos, hle, rfl, rfl⟩, rfl⟩
    exact ⟨ds, hdigits, hpos, hle, rfl, rfl⟩
  · rintro ⟨ds, hdigits, hpos, hle, rfl, rfl⟩
    exact ⟨_, ⟨ds, hdigits, hpos, hle, rfl, rfl⟩, rfl⟩

/-- A digit text begins with no sign. -/
theorem map_digitByte_ne_sign {ds : List Nat} (hdigits : ∀ d ∈ ds, d < 10) {c : Byte} (hc : c = 0x2B#8 ∨ c = 0x2D#8)
    (bs : List Byte) : c :: bs ≠ ds.map digitByte := by
  cases ds with
  | nil => exact List.cons_ne_nil _ _
  | cons d ds =>
    have hd := digitByte_not_sign (hdigits d List.mem_cons_self)
    intro he
    rw [List.map_cons, List.cons.injEq] at he
    rcases hc with rfl | rfl
    · exact hd.1 he.1.symm
    · exact hd.2 he.1.symm

/-- The reader of a `sint`, by the first byte: no byte, a sign, or the first digit. -/
theorem decodeSint_iff (bs : List Byte) (v : Int) : decodeSint bs = some v ↔
    ∃ ds : List Nat, (∀ d ∈ ds, d < 10) ∧ 1 ≤ ds.length ∧ ds.length ≤ 10 ∧
      ((bs = ds.map digitByte ∧ v = (Nat.ofDigits 10 ds.reverse : Nat)) ∨
        (bs = 0x2B#8 :: ds.map digitByte ∧ v = (Nat.ofDigits 10 ds.reverse : Nat)) ∨
        (bs = 0x2D#8 :: ds.map digitByte ∧ v = -((Nat.ofDigits 10 ds.reverse : Nat) : Int))) := by
  cases bs with
  | nil =>
    constructor
    · intro h
      cases h
    · rintro ⟨ds, -, hpos, -, ⟨he, -⟩ | ⟨he, -⟩ | ⟨he, -⟩⟩
      · rw [List.map_eq_nil_iff.1 he.symm] at hpos
        exact absurd hpos (by decide)
      · cases he
      · cases he
  | cons b bs =>
    simp only [decodeSint]
    split_ifs with hplus hminus
    · subst hplus
      rw [decodeDigits_iff]
      refine exists_congr fun ds => and_congr_right fun hdigits => and_congr_right fun _ => and_congr_right fun _ => ?_
      simp [map_digitByte_ne_sign hdigits (.inl rfl)]
    · subst hminus
      rw [decodeDigits_iff]
      refine exists_congr fun ds => and_congr_right fun hdigits => and_congr_right fun _ => and_congr_right fun _ => ?_
      simp [map_digitByte_ne_sign hdigits (.inr rfl)]
    · rw [decodeDigits_iff]
      simp [hplus, hminus]

/-- Settles O44. The digit text of the statement is `ds.map digitByte`; `SL` and `SU` are two rows of the code map. -/
theorem signedIntegersReadAsWritten : Obligations.SignedIntegersReadAsWritten := by
  refine ⟨decodeSint_iff, fun bs v hv => ?_⟩
  rw [decodeText_of_lookup (f := .i .sl) rfl, decodeText_of_lookup (f := .i .su) rfl, decodeArgs_i _ hv,
    decodeArgs_i _ hv]
  exact ⟨fun hfits => ⟨if_pos hfits, if_pos hfits⟩, fun hbeyond => ⟨if_neg hbeyond, if_neg hbeyond⟩⟩

/-! ### Protocol errors -/

/-- A text shorter than a code is too short, and no other. -/
theorem decodeText_tooShort (text : List Byte) : decodeText text = .error .tooShort ↔ text.length < 2 := by
  match text with
  | [] | [_] => simp [decodeText]
  | c0 :: c1 :: args =>
    have hlong : ¬ (c0 :: c1 :: args).length < 2 := by simp
    refine iff_of_false (fun h => ?_) hlong
    cases hrow : codeTable.lookup (opcodeOf c0 c1) with
    | some f => exact (decodeArgs_kind f args).1 ((decodeText_of_lookup hrow args).symm.trans h)
    | none => cases (decodeText_of_lookup_none hrow args).symm.trans h

theorem decodeText_unknownCode (c0 c1 : Byte) (args : List Byte) :
    decodeText (c0 :: c1 :: args) = .error .unknownCode ↔ opcodeOf c0 c1 ∉ codeTable.map Prod.fst := by
  rw [← codeTable_lookup_none]
  cases hrow : codeTable.lookup (opcodeOf c0 c1) with
  | some f =>
    rw [decodeText_of_lookup hrow]
    exact iff_of_false (decodeArgs_kind f args).2 (Option.some_ne_none f)
  | none => exact iff_of_true (decodeText_of_lookup_none hrow args) rfl

/-- The fourteen codes without fields. -/
theorem codeTable_lookup_bare {k : Nat} (h : k ∈ [0x454E, 0x4449, 0x4553, 0x4648, 0x5348,
    0x5248, 0x524C, 0x5255, 0x4741, 0x4752, 0x474C, 0x4755, 0x4754, 0x4756]) :
    ∃ i, codeTable.lookup k = some (.n i) := by
  simp only [List.mem_cons, List.not_mem_nil, or_false] at h
  rcases h with rfl | rfl | rfl | rfl | rfl | rfl | rfl | rfl | rfl | rfl | rfl | rfl | rfl | rfl <;> exact ⟨_, rfl⟩

/-- Codes without fields: bytes that follow are refused as such. -/
theorem decodeArgs_n_errors (i : Instr) (args : List Byte) :
    (decodeArgs (.n i) args = .error .missingArg ↔ args ≠ []) ∧ decodeArgs (.n i) args ≠ .error .range := by
  rw [decodeArgs_n]
  split_ifs with hargs <;> simp [hargs]

/-- The digit of `SR`: absent, or anything but one digit. -/
theorem decodeArgs_d_errors (make : Nat → Instr) (args : List Byte) :
    (decodeArgs (.d make) args = .error .missingArg ↔ args = []) ∧
      (decodeArgs (.d make) args = .error .range ↔ args ≠ [] ∧ ∀ d < 10, args ≠ [digitByte d]) := by
  match args with
  | [] => simp [decodeArgs]
  | [b] =>
    cases hb : digitValue b with
    | some d =>
      obtain ⟨hd, rfl⟩ := digitValue_some hb
      rw [decodeArgs_d make hd]
      exact ⟨by simp, iff_of_false (by simp) fun h => h.2 d hd rfl⟩
    | none =>
      have hother : ∀ d < 10, [b] ≠ [digitByte d] := by
        rintro d hd he
        rw [List.singleton_inj.1 he, digitValue_digitByte hd] at hb
        cases hb
      simp only [decodeArgs, hb]
      exact ⟨by simp, iff_of_true trivial ⟨List.cons_ne_nil _ _, hother⟩⟩
  | _ :: _ :: _ => simp [decodeArgs]

/-- The `sint` of `SL` and `SU`: ill formed, or beyond 32 bits. -/
theorem decodeArgs_i_errors (make : Int → Instr) (args : List Byte) :
    (decodeArgs (.i make) args = .error .missingArg ↔ decodeSint args = none) ∧
      (decodeArgs (.i make) args = .error .range ↔ ∃ v, decodeSint args = some v ∧ ¬ FitsPos v) := by
  cases hs : decodeSint args with
  | none => simp [decodeArgs_i_none make hs]
  | some v =>
    rw [decodeArgs_i make hs]
    split_ifs with hv
    · exact ⟨iff_of_false nofun nofun, iff_of_false nofun fun ⟨_, he, hn⟩ => hn (Option.some.inj he ▸ hv)⟩
    · exact ⟨iff_of_false nofun nofun, iff_of_true rfl ⟨v, rfl, hv⟩⟩

/-- The fields of `RA` and `RR` after a velocity field. -/
theorem decodeArgs_v_errors (make : Nat → Int → Instr) {vel : Nat} (hvel : vel ≤ 9999) (args : List Byte) :
    (decodeArgs (.v make) (renderVel vel ++ args) = .error .missingArg ↔ decodeSint args = none) ∧
      (decodeArgs (.v make) (renderVel vel ++ args) = .error .range ↔
        ∃ v, decodeSint args = some v ∧ (vel = 0 ∨ ¬ FitsPos v)) := by
  rw [decodeArgs_v make vel args hvel]
  cases decodeSint args with
  | none => simp
  | some v =>
    simp only
    split_ifs with hrange
    · exact ⟨iff_of_false nofun nofun, iff_of_true rfl ⟨v, rfl, hrange⟩⟩
    · exact ⟨iff_of_false nofun nofun, iff_of_false nofun fun ⟨_, he, hn⟩ => hrange (Option.some.inj he ▸ hn)⟩

/-- Settles O45, kind by kind and format by format. -/
theorem protocolErrorsByKind : Obligations.ProtocolErrorsByKind := by
  refine ⟨decodeText_tooShort, decodeText_unknownCode, fun c0 c1 args hbare => ?_, fun args => ?_,
    fun c args hc => ?_, fun c vel args hc hvel => ?_, fun c args hc hillFormed => ?_⟩
  · obtain ⟨i, hrow⟩ := codeTable_lookup_bare hbare
    rw [decodeText_of_lookup hrow]
    exact decodeArgs_n_errors i args
  · rw [decodeText_of_lookup (f := .d .sr) rfl]
    exact decodeArgs_d_errors .sr args
  · rcases hc with rfl | rfl
    · rw [decodeText_of_lookup (f := .i .sl) rfl]
      exact decodeArgs_i_errors .sl args
    · rw [decodeText_of_lookup (f := .i .su) rfl]
      exact decodeArgs_i_errors .su args
  · rcases hc with rfl | rfl
    · exact decodeArgs_v_errors .ra hvel args
    · exact decodeArgs_v_errors .rr hvel args
  · rcases hc with rfl | rfl
    · exact decodeArgs_v_illFormed .ra hillFormed
    · exact decodeArgs_v_illFormed .rr hillFormed

/-- Settles O41: the bytes are closed terms, which the decoder evaluates. -/
theorem commandBytesDecode : Obligations.CommandBytesDecode :=
  ⟨rfl, rfl, rfl, rfl, rfl, rfl, rfl, rfl⟩

/-- Settles O31: an error text has its first byte. -/
theorem errorRepliesAreNeverEmpty : Obligations.ErrorRepliesAreNeverEmpty :=
  ⟨rfl, fun _ => List.cons_ne_nil _ _⟩

end Sys2Proof
end

section
/-! PROOF. The invariant of the controller (10_state.md). Each effect of an operation has its rule; what leaves the fields
of the invariant alone, a reply or a signal, keeps it as it stands. -/

namespace Sys2Proof.Machine

open Sys2Proof.Claims

variable {s t : State} {i : Instr}

theorem fitsPos_zero : FitsPos 0 := by decide

/-- At home both counts are in their widths. -/
theorem positionsFit_home {target : Int} (h : FitsPos target) :
    FitsPos 0 ∧ FitsPos target ∧ -4294967295 ≤ (0 : Int) ∧ (0 : Int) ≤ 4294967295 :=
  ⟨fitsPos_zero, h, by decide⟩

/-! ### Arming -/

theorem armed_away (i : Instr) (s : State) (target : Int) (vmax : Nat) (h : target ≠ s.absolutePosition) :
    armed i s target vmax = ((planned s target vmax).launch i).reply .empty := by
  rw [← arm_eq_armed, arm_away s i target vmax h, plan_eq_planned]

theorem armed_here (i : Instr) (s : State) (target : Int) (vmax : Nat) (h : target = s.absolutePosition) :
    armed i s target vmax = (planned s target vmax).reply .empty := by
  subst h
  rw [← arm_eq_armed, arm_here, plan_eq_planned]

/-- Every plan has its ramps inside the move. -/
theorem plan_order (total inc vmax : Nat) :
    plannedRamp total inc vmax ≤ plannedDown total inc vmax ∧ plannedDown total inc vmax ≤ total := by
  unfold plannedRamp plannedDown
  split_ifs <;> omega

theorem rampLength_le (inc vmax : Nat) : rampLength inc vmax ≤ vmax := by
  unfold rampLength
  split_ifs
  · exact Nat.zero_le vmax
  · exact Nat.div_le_self vmax inc

theorem startVelocity_bounds (inc vmax : Nat) : 0 ≤ startVelocity inc vmax ∧ startVelocity inc vmax ≤ vmax := by
  unfold startVelocity
  split_ifs <;> omega

/-- A rotate command's cruise velocity is not 0. -/
theorem one_le_rotateVelocity (hwf : i.WellFormed) (haccepted : Accepted s i) : 1 ≤ rotateVelocity s i := by
  cases i with
  | ra vel target => exact (of_decide_eq_true hwf : 1 ≤ vel ∧ vel ≤ 9999 ∧ FitsPos target).1
  | rr vel count => exact (of_decide_eq_true hwf : 1 ≤ vel ∧ vel ≤ 9999 ∧ FitsPos count).1
  | rh | rl | ru => exact Nat.one_le_iff_ne_zero.2 haccepted.2
  | en | di | es | fh | sh | sl | su | sr | ga | gr | gl | gu | gt | gv | poll | reset => exact haccepted.elim

/-- A rotate command leads to a position of 32 bits, at a cruise velocity of at most four digits. -/
theorem rotate_operands (h : Inv s) (hwf : i.WellFormed) (haccepted : Accepted s i) :
    FitsPos (rotateTarget s i) ∧ rotateVelocity s i ≤ 9999 := by
  obtain ⟨-, ⟨-, -, hlower, hupper⟩, -, -, ⟨hheld, -⟩, -⟩ := h
  cases i with
  | ra vel target =>
    obtain ⟨-, hle, hfits⟩ : 1 ≤ vel ∧ vel ≤ 9999 ∧ FitsPos target := of_decide_eq_true hwf
    exact ⟨hfits, hle⟩
  | rr vel count =>
    obtain ⟨-, hle, -⟩ : 1 ≤ vel ∧ vel ≤ 9999 ∧ FitsPos count := of_decide_eq_true hwf
    exact ⟨haccepted.2, hle⟩
  | rh => exact ⟨fitsPos_zero, hheld⟩
  | rl => exact ⟨hlower, hheld⟩
  | ru => exact ⟨hupper, hheld⟩
  | en | di | es | fh | sh | sl | su | sr | ga | gr | gl | gu | gt | gv | poll | reset => exact haccepted.elim

/-- The plan of a move from an enabled controller is sound. -/
theorem Inv.plan (h : Inv s) (henabled : s.state = .enabled) {target : Int} (htarget : FitsPos target)
    {vmax : Nat} (hvmax : vmax ≤ 9999) : Inv (planned s target vmax) := by
  obtain ⟨hparams, hlimits, ⟨hpos, -, hdelta⟩, hmode, ⟨-, -, -, -, -, hinc⟩, -, -, hhoming⟩ := h
  obtain ⟨hramp, hdown⟩ := plan_order (target - s.absolutePosition).natAbs s.velocityIncrement vmax
  obtain ⟨hstart, hvelocity⟩ := startVelocity_bounds s.velocityIncrement vmax
  have hlength : plannedRamp (target - s.absolutePosition).natAbs s.velocityIncrement vmax ≤ 9999 :=
    (plannedRamp_le_rampLength _ _ _).trans ((rampLength_le _ _).trans hvmax)
  have htotal : (target - s.absolutePosition).natAbs ≤ 4294967295 := by
    obtain ⟨htl, htu⟩ := htarget
    obtain ⟨hpl, hpu⟩ := hpos
    omega
  refine ⟨hparams, hlimits, ⟨hpos, htarget, hdelta⟩, hmode, ⟨hvmax, hlength, hramp, hdown, htotal, hinc⟩,
    ⟨hstart, ?_⟩, fun hrunning => ?_, hhoming⟩
  · show startVelocity s.velocityIncrement vmax ≤ 9999 + 9999 * (s.params.kRamp : Int)
    omega
  · cases henabled.symm.trans hrunning

/-- The way to a target: the step increment as often as the distance has steps. -/
theorem ofDistance_way (d : Int) : d = (StepIncrement.ofDistance d).toInt * d.natAbs := by
  rcases eq_or_ne d 0 with rfl | hd
  · rfl
  · rcases ofDistance_cases d hd with ⟨hpos, he⟩ | ⟨hneg, he⟩ <;> rw [he] <;> simp only [StepIncrement.toInt] <;> omega

/-- The launch of a planned move puts it at its first step. -/
theorem Inv.launch (h : Inv s) (henabled : s.state = .enabled) (hreturned : s.homing = none)
    (hcruise : 1 ≤ s.maxVelocity) (hvelocity : s.velocity ≤ 9999)
    (htotal : s.totalSteps = (s.targetPosition - s.absolutePosition).natAbs)
    (haway : s.targetPosition ≠ s.absolutePosition) (op : Instr) : Inv (s.launch op) := by
  obtain ⟨hparams, hlimits, ⟨hpos, htarget, -⟩, ⟨hhomed, hen, hstep⟩, hplan, hvel, -, -⟩ := h
  have htaken : (s.launch op).stepsTaken = 0 := Int.zero_mul _
  have hway := ofDistance_way (s.targetPosition - s.absolutePosition)
  have hmode : (s.launch op).ModeSound :=
    ⟨iff_of_true (hhomed.2 (.inl henabled)) (.inr rfl), iff_of_true (hen.2 (.inl henabled)) (.inr rfl), hstep⟩
  refine ⟨hparams, hlimits, ⟨hpos, htarget, by simp⟩, hmode, hplan, hvel, fun _ => ?_,
    fun hhoming => absurd hreturned hhoming⟩
  refine ⟨hcruise, rfl, htaken.ge, ?_, ?_, ?_⟩
  · rw [htaken, launch_totalSteps]
    omega
  · rw [htaken, launch_targetPosition, launch_absolutePosition, launch_stepIncrement, launch_totalSteps, htotal,
      Int.sub_zero, ← hway]
    omega
  · rw [htaken]
    simpa using hvelocity

theorem Inv.arm (h : Inv s) (hreturned : s.homing = none) (hwf : i.WellFormed) (haccepted : Accepted s i) :
    Inv (armed i s (rotateTarget s i) (rotateVelocity s i)) := by
  have hcruise := one_le_rotateVelocity hwf haccepted
  obtain ⟨htarget, hvmax⟩ := rotate_operands h hwf haccepted
  have hplanned := h.plan haccepted.enabled htarget hvmax
  by_cases haway : rotateTarget s i = s.absolutePosition
  · rw [armed_here i s _ _ haway]
    exact hplanned
  · rw [armed_away i s _ _ haway]
    have hvelocity := (startVelocity_bounds s.velocityIncrement (rotateVelocity s i)).2
    exact hplanned.launch haccepted.enabled hreturned hcruise (hvelocity.trans (by exact_mod_cast hvmax)) rfl haway i

/-! ### Polls -/

/-- The end of a move without a step. -/
theorem Inv.endMove (h : Inv s) (hrunning : s.state = .running) (sig : Signal) : Inv (s.endMove sig) := by
  obtain ⟨hparams, hlimits, hpos, ⟨hhomed, hen, hstep⟩, hplan, hvel, -, hhoming⟩ := h
  exact ⟨hparams, hlimits, hpos,
    ⟨iff_of_true (hhomed.2 (.inr hrunning)) (.inl rfl), iff_of_true (hen.2 (.inr hrunning)) (.inl rfl), hstep⟩,
    hplan, hvel, nofun, fun hunfinished => ⟨rfl, (hhoming hunfinished).2⟩⟩

/-- The steps taken decide the delta, so it has the width of the steps. -/
theorem deltaPosition_bounds (s : State) : -|s.stepsTaken| ≤ s.deltaPosition ∧ s.deltaPosition ≤ |s.stepsTaken| := by
  have habs : |s.stepsTaken| = |s.deltaPosition| := by
    unfold State.stepsTaken
    rcases toInt_cases s.stepIncrement with h | h <;> rw [h] <;> simp
  exact habs ▸ abs_le.1 le_rfl

theorem stepsTaken_stepped (s : State) : (stepped s).stepsTaken = s.stepsTaken + 1 :=
  commitStep_stepsTaken s

/-- A step within the limits leaves the positions in their widths. -/
theorem Inv.positionsFit_stepped (h : Inv s) (hrunning : s.state = .running) (hrange : StepInRange s) :
    (stepped s).PositionsFit := by
  obtain ⟨-, ⟨-, -, ⟨hlower, -⟩, ⟨-, hupper⟩⟩, ⟨-, htarget, -⟩, -, ⟨-, -, -, -, htotal, -⟩, -, hmove, -⟩ := h
  obtain ⟨-, -, htaken, hleft, -⟩ := hmove hrunning
  obtain ⟨hlow, hup⟩ := hrange
  have hdelta := deltaPosition_bounds (stepped s)
  rw [stepsTaken_stepped, abs_of_nonneg (by omega)] at hdelta
  exact ⟨⟨hlower.trans hlow, hup.trans hupper⟩, htarget, by omega, by omega⟩

/-- The velocity after a step grows by at most `K_RAMP` (10_state.md R50 (d)). -/
theorem nextVelocity_bounds (h : Inv s) (hrunning : s.state = .running) :
    1 ≤ nextVelocity s ∧ nextVelocity s ≤ 9999 + min (stepped s).stepsTaken 9999 * (s.params.kRamp : Int) := by
  obtain ⟨⟨hk, -, -⟩, -, -, -, ⟨hcruise, hramp, -, -, -, hinc⟩, -, hmove, -⟩ := h
  obtain ⟨-, -, htaken, -, -, hvelocity⟩ := hmove hrunning
  have hbound : min s.stepsTaken 9999 * (s.params.kRamp : Int) ≤
      min (s.stepsTaken + 1) 9999 * (s.params.kRamp : Int) :=
    Int.mul_le_mul_of_nonneg_right (by omega) (Int.natCast_nonneg _)
  have hfirst : (s.params.kRamp : Int) ≤ min (s.stepsTaken + 1) 9999 * (s.params.kRamp : Int) :=
    le_mul_of_one_le_left (Int.natCast_nonneg _) (by omega)
  have hramped : (stepped s).rampedVelocity ≤ 9999 + min (s.stepsTaken + 1) 9999 * (s.params.kRamp : Int) := by
    unfold State.rampedVelocity
    rw [stepsTaken_stepped]
    split_ifs with hup hdown
    · have hgrow : min (s.stepsTaken + 1) 9999 * (s.params.kRamp : Int) =
          min s.stepsTaken 9999 * (s.params.kRamp : Int) + s.params.kRamp := by
        have hup' : s.stepsTaken + 1 ≤ s.rampSteps := hup
        rw [min_eq_left (by omega), min_eq_left (by omega), add_one_mul]
      show s.velocity + s.velocityIncrement ≤ _
      omega
    · show s.velocity - s.velocityIncrement ≤ _
      omega
    · show (s.maxVelocity : Int) ≤ _
      omega
  rw [← flooredVelocity_stepped, stepsTaken_stepped]
  refine ⟨flooredVelocity_pos (stepped s), ?_⟩
  unfold State.flooredVelocity
  split_ifs
  · show max (s.velocityIncrement : Int) 1 ≤ _
    omega
  · exact hramped

/-- A step that ends the move. -/
theorem Inv.endStep (h : Inv s) (hreturned : s.homing = none) (hrunning : s.state = .running)
    (hrange : StepInRange s) (sig : Signal) : Inv ((stepped s).endMove sig) := by
  have hpos := h.positionsFit_stepped hrunning hrange
  obtain ⟨hparams, hlimits, -, ⟨hhomed, hen, -⟩, hplan, hvel, -, -⟩ := h
  exact ⟨hparams, hlimits, hpos,
    ⟨iff_of_true (hhomed.2 (.inr hrunning)) (.inl rfl), iff_of_true (hen.2 (.inr hrunning)) (.inl rfl), rfl⟩,
    hplan, hvel, nofun, fun hhoming => absurd hreturned hhoming⟩

/-- A step short of the target leaves one step fewer to it, so the move is not used up. -/
theorem way_stepped (htaken : s.stepsTaken < s.totalSteps)
    (hway : s.targetPosition = s.absolutePosition + s.stepIncrement.toInt * (s.totalSteps - s.stepsTaken))
    (haway : s.candidate ≠ s.targetPosition) :
    s.stepsTaken + 1 < s.totalSteps ∧
      s.targetPosition = s.candidate + s.stepIncrement.toInt * (s.totalSteps - (s.stepsTaken + 1)) := by
  unfold State.candidate at haway ⊢
  rcases toInt_cases s.stepIncrement with hinc | hinc <;> rw [hinc] at hway haway ⊢ <;> omega

/-- A step after which the move goes on. -/
theorem Inv.goOn (h : Inv s) (hreturned : s.homing = none) (hrunning : s.state = .running) (hrange : StepInRange s)
    (haway : s.candidate ≠ s.targetPosition) : Inv ((stepped s).scheduleNext.signal .stepped) := by
  have hpos := h.positionsFit_stepped hrunning hrange
  obtain ⟨hvelpos, hvelocity⟩ := nextVelocity_bounds h hrunning
  have hcap : min (stepped s).stepsTaken 9999 * (s.params.kRamp : Int) ≤ 9999 * (s.params.kRamp : Int) :=
    Int.mul_le_mul_of_nonneg_right (min_le_right _ _) (Int.natCast_nonneg _)
  obtain ⟨hparams, hlimits, -, ⟨hhomed, hen, -⟩, hplan, -, hmove, -⟩ := h
  obtain ⟨hcruise, hdir, htaken, hleft, hway, -⟩ := hmove hrunning
  obtain ⟨hleft', hway'⟩ := way_stepped hleft hway haway
  have hsteps := stepsTaken_stepped s
  refine ⟨hparams, hlimits, hpos, ⟨hhomed, hen, rfl⟩, hplan, ?_,
    fun _ => ⟨hcruise, hdir, ?_, ?_, ?_, hvelocity⟩, fun hhoming => absurd hreturned hhoming⟩
  · exact ⟨zero_le_one.trans hvelpos, hvelocity.trans (Int.add_le_add_left hcap 9999)⟩
  · show 0 ≤ (stepped s).stepsTaken
    omega
  · show (stepped s).stepsTaken < s.totalSteps
    omega
  · show s.targetPosition = s.candidate + s.stepIncrement.toInt * (s.totalSteps - (stepped s).stepsTaken)
    rwa [hsteps]

/-! ### Homing -/

/-- Homing, which runs in `ENABLED` alone, keeps the invariant. -/
theorem Inv.homing (h : Inv s) (hframe : HomingFrame s t) (henabled : s.state = .enabled)
    (hswitch : s.params.llsConfigured = true) : Inv t := by
  obtain ⟨hparams, hlimits, ⟨hpos, htarget, hdelta⟩, ⟨hhomed, hen, hstep⟩, hplan, hvel, -, -⟩ := h
  have hfields := hframe.plan
  simp only [Prod.mk.injEq] at hfields
  obtain ⟨htarget', htotal, -, hvelocity, hinc, hcruise, hramp, hdown, -⟩ := hfields
  obtain ⟨hlower, hupper⟩ := hframe.limits
  obtain ⟨hen', hparams'⟩ := hframe.setting
  have henabled' : t.state = .enabled := hframe.state.trans henabled
  have hhomed' : t.homed = true := by
    rcases hframe.position with ⟨-, -, hsame⟩ | ⟨-, -, hset⟩
    · exact hsame.trans (hhomed.2 (.inl henabled))
    · exact hset
  refine ⟨hparams' ▸ hparams, ?_, ?_, ⟨iff_of_true hhomed' (.inl henabled'),
    iff_of_true (hen'.trans (hen.2 (.inl henabled))) (.inl henabled'), ?_⟩, ?_, ?_, fun hrunning => ?_,
    fun _ => ⟨henabled', hparams' ▸ hswitch⟩⟩
  · unfold State.LimitsSound
    rwa [hlower, hupper]
  · unfold State.PositionsFit
    rw [htarget']
    rcases hframe.position with ⟨habs, hdel, -⟩ | ⟨habs, hdel, -⟩ <;> rw [habs, hdel]
    · exact ⟨hpos, htarget, hdelta⟩
    · exact positionsFit_home htarget
  · exact hframe.outStep.elim (·.trans hstep) id
  · unfold State.PlanSound
    rwa [hcruise, hramp, hdown, htotal, hinc, hparams']
  · unfold State.VelocitySound
    rwa [hvelocity, hparams']
  · cases henabled'.symm.trans hrunning

/-! ### The operations and the step -/

theorem limitsSound_reset : Config.lowerReset ≤ 0 ∧ 0 ≤ Config.upperReset ∧
    FitsPos Config.lowerReset ∧ FitsPos Config.upperReset := by decide

/-- A controller just constructed is sound. -/
theorem inv_construct {p : Params} (hp : p.Wf) : Inv (State.construct p) :=
  ⟨hp, limitsSound_reset, positionsFit_home fitsPos_zero,
    ⟨by simp [State.construct], by simp [State.construct], rfl⟩,
    ⟨Nat.zero_le _, Nat.zero_le _, le_rfl, le_rfl, Nat.zero_le _, vinc_le p p.rampReset⟩,
    ⟨le_rfl, by simp only [State.construct]; omega⟩, nofun, fun h => absurd rfl h⟩

/-- Every operation outside an unfinished `FH` keeps the invariant. -/
theorem Inv.exec (h : Inv s) (hreturned : s.homing = none) (hwf : i.WellFormed) (hexec : exec i s = .next t) :
    Inv t := by
  have hs := h
  obtain ⟨hparams, hlimits, ⟨hpos, htarget, hdelta⟩, ⟨hhomed, hen, hstep⟩, hplan, hvel, hmove, hhoming⟩ := h
  cases effect_of_exec hexec with
  | reply => exact hs
  | en =>
    exact ⟨hparams, hlimits, positionsFit_home htarget, ⟨by simp, by simp, hstep⟩, hplan, hvel, nofun,
      fun hunfinished => absurd hreturned hunfinished⟩
  | di =>
    exact ⟨hparams, hlimits, ⟨hpos, htarget, hdelta⟩, ⟨by simp, by simp, hstep⟩, hplan, hvel, nofun,
      fun hunfinished => absurd hreturned hunfinished⟩
  | es =>
    exact ⟨hparams, hlimits, ⟨hpos, hpos, hdelta⟩, ⟨by simp, by simp, rfl⟩, hplan, hvel, nofun,
      fun hunfinished => absurd hreturned hunfinished⟩
  | sh henabled =>
    exact ⟨hparams, hlimits, positionsFit_home htarget, ⟨iff_of_true rfl (.inl henabled), hen, hstep⟩, hplan,
      hvel, fun hrunning => (nomatch henabled.symm.trans hrunning), hhoming⟩
  | sl v hv =>
    obtain ⟨-, hupper, -, hfits⟩ := hlimits
    exact ⟨hparams, ⟨hv.1, hupper, of_decide_eq_true hwf, hfits⟩, ⟨hpos, htarget, hdelta⟩,
      ⟨hhomed, hen, hstep⟩, hplan, hvel, hmove, hhoming⟩
  | su v hv =>
    obtain ⟨hlower, -, hfits, -⟩ := hlimits
    exact ⟨hparams, ⟨hlower, hv.1, hfits, of_decide_eq_true hwf⟩, ⟨hpos, htarget, hdelta⟩,
      ⟨hhomed, hen, hstep⟩, hplan, hvel, hmove, hhoming⟩
  | sr r =>
    obtain ⟨hcruise, hramp, horder, hdown, htotal, -⟩ := hplan
    exact ⟨hparams, hlimits, ⟨hpos, htarget, hdelta⟩, ⟨hhomed, hen, hstep⟩,
      ⟨hcruise, hramp, horder, hdown, htotal, vinc_le s.params r⟩, hvel, hmove, hhoming⟩
  | arm _ haccepted => exact hs.arm hreturned hwf haccepted
  | fh henabled hswitch =>
    have hstart : Inv s.homingStart :=
      ⟨hparams, hlimits, ⟨hpos, htarget, hdelta⟩, ⟨hhomed, hen, hstep⟩, hplan, hvel,
        fun hrunning => (nomatch henabled.symm.trans hrunning), fun _ => ⟨henabled, hswitch⟩⟩
    exact hstart.homing (homingRun_frame _ _) henabled hswitch
  | idle => exact hs
  | refused sig hdue => exact hs.endMove hdue.2.1 sig
  | ended sig hdue hrange => exact hs.endStep hreturned hdue.2.1 hrange sig
  | continued hdue hrange haway => exact hs.goOn hreturned hdue.2.1 hrange haway
  | reset => exact inv_construct hparams

/-- Settles O48. A step is a sample of an unfinished `FH`, which the invariant has in `ENABLED`; or waiting; or an
operation the decoder gave, so one with its fields in range; or the answer to a text that is none. Presenting and
replying write no field of the invariant. -/
theorem everyStepKeepsTheInvariant : Obligations.EveryStepKeepsTheInvariant := by
  intro s t hs h
  rcases step_cases s with ⟨hunfinished, he⟩ | ⟨-, -, he⟩ | ⟨p, later, i, hreturned, -, hdecode, he⟩ |
    ⟨p, later, kind, -, -, -, he⟩
  · cases he.symm.trans h
    have ⟨_, _, _, _, _, _, _, hhoming⟩ := hs
    obtain ⟨henabled, hswitch⟩ := hhoming hunfinished
    exact hs.homing (homingIteration_frame s) henabled hswitch
  · cases he.symm.trans h
    exact hs
  · have hpresented : Inv (s.present p later) := hs
    exact hpresented.exec hreturned (decodedOperationsAreWellFormed _ _ hdecode) (he.symm.trans h)
  · cases he.symm.trans h
    exact hs

/-- The open parameters lie in their bounds, as their types say. -/
theorem params_wf : Config.params.Wf := by
  have hk := Config.kRampAbove72.isLt
  have hr := Config.rampReset.isLt
  simp only [Params.Wf, Config.params]
  omega

/-- Settles O47: the state after reset is construction with parameters in their bounds. -/
theorem resetStateIsSound : Obligations.ResetStateIsSound :=
  inv_construct params_wf

/-- Settles O37: construction writes the table, and the parameters are in their bounds. -/
theorem resetStateHoldsTheTable : Obligations.ResetStateHoldsTheTable :=
  ⟨rfl, rfl, rfl, rfl, rfl, rfl, rfl, rfl, rfl, rfl, rfl, rfl, rfl, rfl, rfl, rfl, rfl, rfl, params_wf⟩

end Sys2Proof.Machine
end

section
/-! PROOF. The velocity profile (42_step_scheduler.md R176). The update of a step takes the closed form at `n` to the
closed form at `n + 1`, in each of the three shapes; the rest of `OnProfile` is the plan and the way to the target. -/

namespace Sys2Proof.Claims

open Sys2Proof.Machine

variable {s t : State} {i : Instr} {c m total : Nat} {n v : Int}

/-! ### The shapes of the profile -/

theorem profile_unramped (h : rampLength c m = 0) : profile c m total n = m :=
  if_pos h

theorem profile_trapezoid (h : rampLength c m ≠ 0) (htotal : total > 2 * rampLength c m) :
    profile c m total n = if n ≤ rampLength c m then n * c else
      if n ≤ (total : Int) - rampLength c m then (m : Int) else m - (n - (total - rampLength c m)) * c :=
  (if_neg h).trans (if_pos htotal)

theorem profile_triangle (h : rampLength c m ≠ 0) (htotal : ¬ total > 2 * rampLength c m) :
    profile c m total n = if n ≤ (total / 2 : Nat) then n * c else
      if (2 * (total / 2 : Nat) - n) * c = 0 then (c : Int) else (2 * (total / 2 : Nat) - n) * c :=
  (if_neg h).trans (if_neg htotal)

/-- A ramp has an increment. -/
theorem one_le_of_rampLength_ne_zero (h : rampLength c m ≠ 0) : 1 ≤ c := by
  rw [Nat.one_le_iff_ne_zero]
  rintro rfl
  exact h (if_pos rfl)

/-- The velocity after step `n`, with the start velocity before the first step. -/
def velocityAfter (c m total : Nat) (n : Int) : Int :=
  if n = 0 then startVelocity c m else profile c m total n

/-- With a ramp the closed form holds before the first step too: both are standstill. -/
theorem velocityAfter_ramped (h : rampLength c m ≠ 0) : velocityAfter c m total n = profile c m total n := by
  unfold velocityAfter
  split_ifs with hn
  · rw [startVelocity, if_neg h, hn]
    by_cases htotal : total > 2 * rampLength c m
    · rw [profile_trapezoid h htotal, if_pos (Int.natCast_nonneg _), Int.zero_mul]
    · rw [profile_triangle h htotal, if_pos (Int.natCast_nonneg _), Int.zero_mul]
  · rfl

/-! ### The update of a step -/

/-- The velocity after step `n` from the one before it, `up` and `down` the plan's two bounds (R169, R170). -/
def updatedVelocity (c m up down : Nat) (n v : Int) : Int :=
  let w := if n ≤ up then v + c else if n > down then v - c else (m : Int)
  if w < 1 then max (c : Int) 1 else w

theorem nextVelocity_eq (s : State) : nextVelocity s =
    updatedVelocity s.velocityIncrement s.maxVelocity s.rampSteps s.rampDownStep (s.stepsTaken + 1) s.velocity := by
  rw [← stepsTaken_stepped]
  rfl

variable {up down : Nat}

theorem updatedVelocity_up (hup : n ≤ up) (hpos : 1 ≤ v + c) : updatedVelocity c m up down n v = v + c := by
  simp only [updatedVelocity, if_pos hup]
  exact if_neg hpos.not_gt

theorem updatedVelocity_cruise (hup : ¬ n ≤ up) (hdown : n ≤ down) (hpos : 1 ≤ m) :
    updatedVelocity c m up down n v = m := by
  simp only [updatedVelocity, if_neg hup, if_neg hdown.not_gt]
  exact if_neg (by omega)

theorem updatedVelocity_down (hup : ¬ n ≤ up) (hdown : n > down) :
    updatedVelocity c m up down n v = if v - c < 1 then max (c : Int) 1 else v - c := by
  simp only [updatedVelocity, if_neg hup, if_pos hdown]

/-- The trapezoid: up by one increment, cruise, or down by one increment; what is left of the ramp down keeps the
velocity positive. -/
theorem updatedVelocity_trapezoid (h : rampLength c m ≠ 0) (htotal : total > 2 * rampLength c m) (hm : 1 ≤ m)
    (hn : 0 ≤ n) (hleft : n + 1 < total) :
    updatedVelocity c m (rampLength c m) (total - rampLength c m) (n + 1) (profile c m total n) =
      profile c m total (n + 1) := by
  have hc := one_le_of_rampLength_ne_zero h
  have hramp : (rampLength c m : Int) * c ≤ m := by exact_mod_cast rampLength_mul_le c m
  rw [profile_trapezoid h htotal, profile_trapezoid h htotal]
  generalize rampLength c m = r at *
  by_cases hup : n + 1 ≤ r
  · have hnc : 0 ≤ n * (c : Int) := Int.mul_nonneg hn (Int.natCast_nonneg c)
    rw [if_pos (by omega), if_pos hup, add_one_mul]
    exact updatedVelocity_up hup (by omega)
  · rw [if_neg hup]
    by_cases hdown : n + 1 ≤ (total : Int) - r
    · rw [if_pos hdown]
      exact updatedVelocity_cruise hup (by omega) hm
    · have hv : (if n ≤ (r : Int) then n * c else if n ≤ (total : Int) - r then (m : Int)
          else m - (n - (total - r)) * c) = m - (n - (total - r)) * c := by
        rw [if_neg (by omega)]
        split_ifs with hlast
        · rw [show n - ((total : Int) - r) = 0 by omega]
          omega
        · rfl
      have hstep : (m : Int) - (n - (total - r)) * c - c = m - (n + 1 - (total - r)) * c := by ring
      have hrest : (n + 1 - (total - r)) * (c : Int) + c ≤ r * c := by
        rw [← add_one_mul]
        exact Int.mul_le_mul_of_nonneg_right (by omega) (Int.natCast_nonneg c)
      rw [hv, if_neg hdown, updatedVelocity_down hup (by omega), hstep]
      exact if_neg (by omega)

/-- The triangle: up by one increment to the half, then down by one, with the floor at the end of an even way. -/
theorem updatedVelocity_triangle (h : rampLength c m ≠ 0) (htotal : ¬ total > 2 * rampLength c m)
    (hn : 0 ≤ n) (hleft : n + 1 < total) :
    updatedVelocity c m (total / 2) (total / 2) (n + 1) (profile c m total n) = profile c m total (n + 1) := by
  have hc := one_le_of_rampLength_ne_zero h
  rw [profile_triangle h htotal, profile_triangle h htotal]
  have hhalf : (total : Int) ≤ 2 * (total / 2 : Nat) + 1 := by omega
  generalize total / 2 = k at *
  by_cases hup : n + 1 ≤ k
  · have hnc : 0 ≤ n * (c : Int) := Int.mul_nonneg hn (Int.natCast_nonneg c)
    rw [if_pos (by omega), if_pos hup, add_one_mul]
    exact updatedVelocity_up hup (by omega)
  · have hv : (if n ≤ (k : Int) then n * c else if (2 * (k : Int) - n) * c = 0 then (c : Int)
        else (2 * k - n) * c) = (2 * k - n) * c := by
      split_ifs with hlast hzero
      · rw [show n = (k : Int) by omega]
        ring
      · rcases Int.mul_eq_zero.1 hzero with hz | hz <;> omega
      · rfl
    have hstep : (2 * (k : Int) - n) * c - c = (2 * k - (n + 1)) * c := by ring
    have hnonneg : 0 ≤ (2 * (k : Int) - (n + 1)) * c := Int.mul_nonneg (by omega) (Int.natCast_nonneg c)
    rw [hv, if_neg hup, updatedVelocity_down hup (by omega), hstep]
    split_ifs <;> omega

/-- The update follows the closed form, in whichever shape the plan has. -/
theorem updatedVelocity_profile (hm : 1 ≤ m) (hn : 0 ≤ n) (hleft : n + 1 < total) :
    updatedVelocity c m (plannedRamp total c m) (plannedDown total c m) (n + 1) (velocityAfter c m total n) =
      profile c m total (n + 1) := by
  by_cases hr : rampLength c m = 0
  · obtain ⟨hup, hdown⟩ := plan_of_trapezoid (total := total) (inc := c) (vmax := m) (by omega)
    rw [hup, hdown, hr, profile_unramped hr]
    exact updatedVelocity_cruise (by omega) (by omega) hm
  · rw [velocityAfter_ramped hr]
    by_cases htotal : total > 2 * rampLength c m
    · obtain ⟨hup, hdown⟩ := plan_of_trapezoid htotal
      rw [hup, hdown]
      exact updatedVelocity_trapezoid hr htotal hm hn hleft
    · obtain ⟨hup, hdown⟩ := plan_of_triangle htotal
      rw [hup, hdown]
      exact updatedVelocity_triangle hr htotal hn hleft

/-! ### The move -/

/-- A launched plan is on its profile, before the first step. -/
theorem onProfile_launch {target : Int} {vmax : Nat} (hvmax : 1 ≤ vmax) (haway : target ≠ s.absolutePosition) :
    OnProfile (((planned s target vmax).launch i).reply .empty) := by
  have htaken : (((planned s target vmax).launch i).reply .empty).stepsTaken = 0 := Int.zero_mul _
  have hway := ofDistance_way (target - s.absolutePosition)
  refine ⟨rfl, hvmax, rfl, rfl, htaken.ge, ?_, ?_, ?_⟩
  · rw [htaken]
    show (0 : Int) < (target - s.absolutePosition).natAbs
    omega
  · rw [htaken, Int.sub_zero]
    show target = s.absolutePosition + (StepIncrement.ofDistance (target - s.absolutePosition)).toInt *
      (target - s.absolutePosition).natAbs
    omega
  · rw [if_pos htaken]
    rfl

/-- A step short of the target keeps the profile. -/
theorem OnProfile.continued (h : OnProfile s) (haway : s.candidate ≠ s.targetPosition) :
    OnProfile ((stepped s).scheduleNext.signal .stepped) := by
  obtain ⟨hrunning, hcruise, hramp, hdown, htaken, hleft, hway, hvelocity⟩ := h
  obtain ⟨hleft', hway'⟩ := way_stepped hleft hway haway
  have hsteps : ((stepped s).scheduleNext.signal .stepped).stepsTaken = s.stepsTaken + 1 := stepsTaken_stepped s
  refine ⟨hrunning, hcruise, hramp, hdown, ?_, ?_, ?_, ?_⟩ <;> rw [hsteps]
  · omega
  · exact hleft'
  · exact hway'
  · rw [if_neg (by omega)]
    calc nextVelocity s = updatedVelocity s.velocityIncrement s.maxVelocity s.rampSteps s.rampDownStep
          (s.stepsTaken + 1) s.velocity := nextVelocity_eq s
      _ = updatedVelocity s.velocityIncrement s.maxVelocity
          (plannedRamp s.totalSteps s.velocityIncrement s.maxVelocity)
          (plannedDown s.totalSteps s.velocityIncrement s.maxVelocity) (s.stepsTaken + 1)
          (velocityAfter s.velocityIncrement s.maxVelocity s.totalSteps s.stepsTaken) := by
        rw [← hramp, ← hdown, velocityAfter, ← hvelocity]
      _ = _ := updatedVelocity_profile hcruise htaken hleft'

/-- What starts a move from `ENABLED` is an accepted rotate command. -/
theorem onProfile_of_started (hwf : i.WellFormed) (henabled : s.state = .enabled) (hexec : exec i s = .next t)
    (hrunning : t.state = .running) : OnProfile t := by
  have hidle : s.state ≠ .running := fun h => nomatch henabled.symm.trans h
  cases effect_of_exec hexec with
  | arm _ haccepted =>
    by_cases haway : rotateTarget s i = s.absolutePosition
    · rw [armed_here i s _ _ haway] at hrunning
      exact absurd hrunning hidle
    · rw [armed_away i s _ _ haway]
      exact onProfile_launch (one_le_rotateVelocity hwf haccepted) haway
  | fh => exact absurd ((homingRun_frame _ s.homingStart).state.symm.trans hrunning) hidle
  | continued hdue => exact absurd hdue.2.1 hidle
  | reply | sh | sl | su | sr | idle => exact absurd hrunning hidle
  | en | di | es | refused | ended | reset => cases hrunning

/-- While a move goes on only `SR` takes it off its profile. -/
theorem OnProfile.exec (h : OnProfile s) (hother : ∀ r, i ≠ .sr r) (hexec : exec i s = .next t)
    (hrunning : t.state = .running) : OnProfile t := by
  have ⟨hmoving, _⟩ := h
  have hbusy : s.state ≠ .enabled := fun henabled => nomatch hmoving.symm.trans henabled
  cases effect_of_exec hexec with
  | continued _ _ haway => exact h.continued haway
  | reply | sl | su | idle => exact h
  | sr r => exact absurd rfl (hother r)
  | arm _ haccepted => exact absurd haccepted.enabled hbusy
  | sh henabled | fh henabled => exact absurd henabled hbusy
  | en | di | es | refused | ended | reset => cases hrunning

/-- Settles O23: a launched plan is on its profile, and a step that goes on keeps it there. -/
theorem movesKeepTheirVelocityProfile : Obligations.MovesKeepTheirVelocityProfile :=
  ⟨fun _ _ _ hwf henabled h hrunning => onProfile_of_started hwf henabled h hrunning,
    fun _ _ _ hprofile hother h hrunning => hprofile.exec hother h hrunning⟩

end Sys2Proof.Claims
end

section
/-! PROOF. Runs of polls (42_step_scheduler.md R173, R174; 41_ramp_planner.md R151). `pollAt` is `pollResult` at the given
inputs; polls that are due, clear and short of the target add up to a way, and one more poll ends it. -/

namespace Sys2Proof.Claims

open Sys2Proof.Machine

variable {s t : State}

/-! ### One poll -/

/-- Settles O20: a poll that moves has taken a step, and takes it within the limits. -/
theorem committedPositionsAreInRange : Obligations.CommittedPositionsAreInRange := by
  intro s t h hmoved
  cases effect_of_exec h with
  | ended sig hdue hrange => exact hrange
  | continued hdue hrange => exact hrange
  | reply | idle | refused => exact absurd rfl hmoved
  | arm _ haccepted => exact haccepted.elim

/-- Settles O26: two steps outside a limit either way the candidate is outside too. -/
theorem limitInsideThePositionTrapsTheMotor : Obligations.LimitInsideThePositionTrapsTheMotor := by
  intro s hhomed hrunning hreached horder
  have hdue : s.Due := ⟨hhomed, hrunning, hreached⟩
  have hstep := toInt_cases s.stepIncrement
  constructor
  · intro hbelow
    exact exec_poll_of_below hdue (show s.absolutePosition + s.stepIncrement.toInt < s.lowerLimit by omega)
  · intro habove
    exact exec_poll_of_above hdue (show s.lowerLimit ≤ s.absolutePosition + s.stepIncrement.toInt by omega)
      (show s.upperLimit < s.absolutePosition + s.stepIncrement.toInt by omega)

/-- The state with the time `n` at the lines. -/
def atTime (s : State) (n : Time) : State := { s with inputs := { s.inputs with now := n } }

/-- The entries of a poll at time `n` that makes the events `es`. -/
def pollEntries (n : Time) (es : List OutputEvent) : List TraceEntry :=
  es.map fun e => { op := .poll, now := some n, event := e }

/-- A due poll leaves one state and makes one list of events, whenever it comes. -/
theorem exec_poll_late (s : State) : ∃ (u : State) (es : List OutputEvent), ∀ n : Time, s.nextStepDeadline ≤ n.toNat →
    exec .poll (atTime s n) = .next { u with
      inputs := { s.inputs with now := n }
      trace := s.trace ++ pollEntries n es } := by
  by_cases hmoving : s.homed = true ∧ s.state = .running
  · obtain ⟨hhomed, hrunning⟩ := hmoving
    have hdue {n : Time} (hn : s.nextStepDeadline ≤ n.toNat) : (atTime s n).Due := ⟨hhomed, hrunning, hn⟩
    by_cases hlow : s.candidate < s.lowerLimit
    · exact ⟨s.endMove .rangeLower, [], fun n hn => by
        rw [exec_poll_of_below (hdue hn) hlow, pollEntries, List.map_nil, List.append_nil]; rfl⟩
    by_cases hup : s.upperLimit < s.candidate
    · exact ⟨s.endMove .rangeUpper, [], fun n hn => by
        rw [exec_poll_of_above (hdue hn) (not_lt.1 hlow) hup, pollEntries, List.map_nil, List.append_nil]; rfl⟩
    have hrange : StepInRange s := ⟨not_lt.1 hlow, not_lt.1 hup⟩
    by_cases hlower : s.LowerSwitchTrips
    · exact ⟨(stepped s).endMove .limitLower, [.stepPulse s.stepIncrement], fun n hn =>
        exec_poll_of_lowerSwitch (hdue hn) hrange hlower⟩
    by_cases hupper : s.UpperSwitchTrips
    · exact ⟨(stepped s).endMove .limitUpper, [.stepPulse s.stepIncrement], fun n hn =>
        exec_poll_of_upperSwitch (hdue hn) hrange hlower hupper⟩
    by_cases harrived : s.candidate = s.targetPosition
    · exact ⟨(stepped s).endMove .complete, [.stepPulse s.stepIncrement], fun n hn =>
        exec_poll_of_arrival (hdue hn) hrange hlower hupper harrived⟩
    · exact ⟨(stepped s).scheduleNext.signal .stepped, [.stepPulse s.stepIncrement], fun n hn =>
        exec_poll_of_continuing (hdue hn) hrange hlower hupper harrived⟩
  · have hidle (n : Time) : ¬ (atTime s n).Due := fun h => hmoving ⟨h.1, h.2.1⟩
    exact ⟨s.signal .idle, [], fun n _ => by
      rw [exec_poll_of_not_due (hidle n), pollEntries, List.map_nil, List.append_nil]; rfl⟩

/-- Settles O21: the one state and the one list of events are those of both polls. -/
theorem latenessMovesNoDeadline : Obligations.LatenessMovesNoDeadline := by
  intro s t t' n n' hn hn' h h'
  obtain ⟨u, es, hlate⟩ := exec_poll_late s
  cases (hlate n hn).symm.trans h
  cases (hlate n' hn').symm.trans h'
  refine ⟨rfl, ?_, rfl, rfl, fun new hnew => ?_⟩
  · simp [pollEntries]
  · rw [← List.append_cancel_left hnew]
    simp [pollEntries]

/-! ### Runs of polls -/

theorem pollAt_of_exec {inp : Inputs} (h : exec .poll { s with inputs := inp } = .next t) : pollAt s inp = t := by
  unfold pollAt
  rw [h]

theorem pollAt_effect (s : State) (inp : Inputs) : Effect { s with inputs := inp } .poll (pollAt s inp) := by
  obtain ⟨t, h⟩ : ∃ t, exec .poll { s with inputs := inp } = .next t := ⟨_, rfl⟩
  rw [pollAt_of_exec h]
  exact effect_of_poll h

/-- An idle poll leaves the deadline. -/
theorem pollAt_idle {inp : Inputs} {pos : Int} (h : (pollAt s inp).result = .polled .idle pos) :
    (pollAt s inp).nextStepDeadline = s.nextStepDeadline := by
  have heffect := pollAt_effect s inp
  generalize pollAt s inp = t at h heffect ⊢
  cases heffect with
  | reply | idle | refused | ended => rfl
  | arm _ haccepted => exact haccepted.elim
  | continued => cases h

/-- A step that goes on builds the deadline on the one before, by the new velocity (R171, R173). -/
theorem pollAt_stepped {inp : Inputs} {pos : Int} (h : (pollAt s inp).result = .polled .stepped pos) :
    (pollAt s inp).nextStepDeadline = s.nextStepDeadline + 1000000 / (pollAt s inp).velocity.toNat := by
  have heffect := pollAt_effect s inp
  generalize pollAt s inp = t at h heffect ⊢
  cases heffect with
  | continued => rfl
  | arm _ haccepted => exact haccepted.elim
  | refused sig _ hsig =>
    cases h
    rcases hsig with hsig | hsig <;> cases hsig
  | ended sig _ _ hsig =>
    cases h
    rcases hsig with hsig | hsig | hsig <;> cases hsig
  | reply | idle => cases h

/-- Idle polls, however many, leave the deadline. -/
theorem foldl_pollAt_idle (idle : List Inputs) (h : AllIdle s idle) :
    (idle.foldl pollAt s).nextStepDeadline = s.nextStepDeadline := by
  induction idle generalizing s with
  | nil => rfl
  | cons inp later ih =>
    obtain ⟨⟨_, hidle⟩, hlater⟩ := h
    exact (ih hlater).trans (pollAt_idle hidle)

/-- Settles O22: the idle polls leave the deadline, and the step adds the interval of the velocity it leaves. -/
theorem constantVelocityIsDriftFree : Obligations.ConstantVelocityIsDriftFree := by
  intro s inp inp' idle pos pos' a b c _ hidle hstepped hvelocity
  calc c.nextStepDeadline = b.nextStepDeadline + 1000000 / c.velocity.toNat := pollAt_stepped hstepped
    _ = a.nextStepDeadline + 1000000 / a.velocity.toNat := by rw [foldl_pollAt_idle idle hidle, hvelocity]

/-- A poll that is due, with no configured switch triggered, as `DueAndClear` says it. -/
structure Clear (s : State) (inp : Inputs) : Prop where
  /-- The deadline is reached. -/
  reached : s.nextStepDeadline ≤ inp.now.toNat
  /-- The lower switch does not trip. -/
  lower : ¬ (s.params.llsConfigured = true ∧ inp.lls.head = .triggered)
  /-- The upper switch does not trip. -/
  upper : ¬ (s.params.ulsConfigured = true ∧ inp.uls = .triggered)

theorem dueAndClear_cons {inp : Inputs} {later : List Inputs} (h : DueAndClear s (inp :: later)) :
    Clear s inp ∧ DueAndClear (pollAt s inp) later :=
  ⟨⟨h.1, h.2.1, h.2.2.1⟩, h.2.2.2⟩

/-- A move in progress from position `p`, with the course of `s`: its direction, target and limits. -/
structure OnCourse (s : State) (p : Int) (t : State) : Prop where
  /-- The driver is engaged. -/
  homed : t.homed = true
  /-- The move is in progress. -/
  running : t.state = .running
  /-- The position. -/
  position : t.absolutePosition = p
  /-- The course. -/
  course : t.stepIncrement = s.stepIncrement ∧ t.targetPosition = s.targetPosition ∧ t.lowerLimit = s.lowerLimit ∧
    t.upperLimit = s.upperLimit

variable {p : Int} {inp : Inputs}

/-- A sound move in progress is on its own course. -/
theorem OnCourse.start (h : Inv s) (hrunning : s.state = .running) : OnCourse s s.absolutePosition s := by
  obtain ⟨-, -, -, ⟨hhomed, -⟩, -⟩ := h
  exact ⟨hhomed.2 (.inr hrunning), hrunning, rfl, rfl, rfl, rfl, rfl⟩

theorem OnCourse.due (h : OnCourse s p t) (hclear : Clear t inp) : ({ t with inputs := inp } : State).Due :=
  ⟨h.homed, h.running, hclear.reached⟩

theorem OnCourse.candidate (h : OnCourse s p t) : t.candidate = p + s.stepIncrement.toInt := by
  rw [State.candidate, h.position, h.course.1]

theorem OnCourse.inRange (h : OnCourse s p t)
    (hrange : s.lowerLimit ≤ p + s.stepIncrement.toInt ∧ p + s.stepIncrement.toInt ≤ s.upperLimit) :
    StepInRange t := by
  obtain ⟨-, -, hlower, hupper⟩ := h.course
  rw [← h.candidate, ← hlower, ← hupper] at hrange
  exact hrange

/-- A position on the way of a move: within the limits, and not its target. -/
def OnWay (s : State) (q : Int) : Prop := s.lowerLimit ≤ q ∧ q ≤ s.upperLimit ∧ q ≠ s.targetPosition

/-- A due and clear poll on the way takes one step on the course. -/
theorem OnCourse.step (h : OnCourse s p t) (hclear : Clear t inp) (hway : OnWay s (p + s.stepIncrement.toInt)) :
    OnCourse s (p + s.stepIncrement.toInt) (pollAt t inp) := by
  obtain ⟨hlow, hup, haway⟩ := hway
  rw [← h.candidate, ← h.course.2.1] at haway
  rw [pollAt_of_exec (exec_poll_of_continuing (h.due hclear) (h.inRange ⟨hlow, hup⟩) hclear.lower hclear.upper haway)]
  exact ⟨h.homed, h.running, h.candidate, h.course⟩

/-- As many polls as their way is long, all due and clear, go that way. -/
theorem OnCourse.steps (first rest : List Inputs) (h : OnCourse s p t) (hclear : DueAndClear t (first ++ rest))
    (hway : ∀ k : Nat, 1 ≤ k → k ≤ first.length → OnWay s (p + s.stepIncrement.toInt * k)) :
    OnCourse s (p + s.stepIncrement.toInt * first.length) (first.foldl pollAt t) ∧
      DueAndClear (first.foldl pollAt t) rest := by
  induction first generalizing p t with
  | nil => exact ⟨by simpa using h, hclear⟩
  | cons inp later ih =>
    obtain ⟨hinp, hlater⟩ := dueAndClear_cons hclear
    have hnext {k : Nat} : p + s.stepIncrement.toInt * (k + 1 : Nat) =
        p + s.stepIncrement.toInt + s.stepIncrement.toInt * k := by
      push_cast
      ring
    have hstep : OnWay s (p + s.stepIncrement.toInt) := by
      simpa using hway 1 le_rfl (Nat.le_add_left 1 _)
    rw [List.length_cons, hnext]
    exact ih (h.step hinp hstep) hlater fun k hk hle => hnext ▸ hway (k + 1) (by omega) (Nat.succ_le_succ hle)

/-- All polls but the last go their way, and the last is due and clear. -/
theorem OnCourse.last {polls : List Inputs} {n : Nat} (h : OnCourse s p t) (hclear : DueAndClear t polls)
    (hlength : polls.length = n + 1)
    (hway : ∀ k : Nat, 1 ≤ k → k ≤ n → OnWay s (p + s.stepIncrement.toInt * k)) :
    ∃ u inp, OnCourse s (p + s.stepIncrement.toInt * n) u ∧ Clear u inp ∧ polls.foldl pollAt t = pollAt u inp := by
  rcases List.eq_nil_or_concat' polls with rfl | ⟨first, inp, rfl⟩
  · cases hlength
  · obtain rfl : first.length = n := by simpa using hlength
    obtain ⟨hcourse, hlast⟩ := h.steps first [inp] hclear hway
    exact ⟨_, inp, hcourse, (dueAndClear_cons hlast).1, by simp⟩

/-- The poll at the last step arrives. -/
theorem OnCourse.arrive (h : OnCourse s p t) (hclear : Clear t inp)
    (hrange : s.lowerLimit ≤ s.targetPosition ∧ s.targetPosition ≤ s.upperLimit)
    (harrived : p + s.stepIncrement.toInt = s.targetPosition) :
    let u := pollAt t inp
    u.absolutePosition = s.targetPosition ∧ u.state = .enabled ∧ u.result = .polled .complete s.targetPosition := by
  have hcandidate := h.candidate.trans harrived
  rw [pollAt_of_exec (exec_poll_of_arrival (h.due hclear) (h.inRange (harrived ▸ hrange)) hclear.lower hclear.upper
    (hcandidate.trans h.course.2.1.symm))]
  exact ⟨hcandidate, rfl, congrArg _ hcandidate⟩

/-- The poll past the lower limit is refused. -/
theorem OnCourse.refusedBelow (h : OnCourse s p t) (hclear : Clear t inp)
    (hlow : p + s.stepIncrement.toInt < s.lowerLimit) :
    let u := pollAt t inp
    u.absolutePosition = p ∧ u.state = .enabled ∧ u.result = .polled .rangeLower p := by
  rw [← h.candidate, ← h.course.2.2.1] at hlow
  rw [pollAt_of_exec (exec_poll_of_below (h.due hclear) hlow)]
  exact ⟨h.position, rfl, congrArg _ h.position⟩

/-- The poll past the upper limit is refused. -/
theorem OnCourse.refusedAbove (h : OnCourse s p t) (hclear : Clear t inp)
    (hlow : s.lowerLimit ≤ p + s.stepIncrement.toInt) (hup : s.upperLimit < p + s.stepIncrement.toInt) :
    let u := pollAt t inp
    u.absolutePosition = p ∧ u.state = .enabled ∧ u.result = .polled .rangeUpper p := by
  rw [← h.candidate, ← h.course.2.2.1] at hlow
  rw [← h.candidate, ← h.course.2.2.2] at hup
  rw [pollAt_of_exec (exec_poll_of_above (h.due hclear) hlow hup)]
  exact ⟨h.position, rfl, congrArg _ h.position⟩

/-- A sound move in progress has its target at least one step ahead. -/
theorem way_ahead (h : Inv s) (hrunning : s.state = .running) :
    ∃ k : Nat, s.targetPosition = s.absolutePosition + s.stepIncrement.toInt * (k + 1 : Nat) := by
  obtain ⟨-, -, -, -, -, -, hmove, -⟩ := h
  obtain ⟨-, -, -, hleft, hway, -⟩ := hmove hrunning
  obtain ⟨k, hk⟩ : ∃ k : Nat, (s.totalSteps : Int) - s.stepsTaken = (k + 1 : Nat) :=
    ⟨(s.totalSteps - s.stepsTaken - 1).toNat, by omega⟩
  exact ⟨k, hk ▸ hway⟩

/-- Settles O24: all polls but the last are on the way, which lies between position and target, and the last arrives. -/
theorem uninterruptedMoveCompletes : Obligations.UninterruptedMoveCompletes := by
  intro s polls hs hrunning hposlow hposup htargetlow htargetup hlength hclear
  obtain ⟨k, htarget⟩ := way_ahead hs hrunning
  have hdir := toInt_cases s.stepIncrement
  have hk : polls.length = k + 1 := by
    rcases hdir with hdir | hdir <;> rw [hdir] at htarget <;> omega
  obtain ⟨u, inp, hcourse, hinp, hfold⟩ := (OnCourse.start hs hrunning).last hclear hk fun j hj hle => by
    unfold OnWay
    rcases hdir with hdir | hdir <;> rw [hdir] at htarget ⊢ <;> omega
  simp only [hfold]
  refine hcourse.arrive hinp ⟨htargetlow, htargetup⟩ ?_
  rcases hdir with hdir | hdir <;> rw [hdir] at htarget ⊢ <;> omega

/-- Settles O25. The target beyond the limit fixes the direction; all polls but the last are on the way to the limit, and
the candidate of the last is past it. -/
theorem overshootingMoveStopsAtTheLimit : Obligations.OvershootingMoveStopsAtTheLimit := by
  intro s polls hs hrunning hposlow hposup hclear
  obtain ⟨k, htarget⟩ := way_ahead hs hrunning
  have hstart := OnCourse.start hs hrunning
  constructor
  · intro hbeyond hlength
    have hdir : s.stepIncrement.toInt = -1 := by
      rcases toInt_cases s.stepIncrement with hdir | hdir <;> rw [hdir] at htarget <;> omega
    obtain ⟨u, inp, hcourse, hinp, hfold⟩ := hstart.last hclear hlength fun j hj hle => by
      rw [OnWay, hdir]
      omega
    have hend : s.absolutePosition + s.stepIncrement.toInt * (s.absolutePosition - s.lowerLimit).natAbs =
        s.lowerLimit := by rw [hdir]; omega
    rw [hend] at hcourse
    rw [hfold]
    exact hcourse.refusedBelow hinp (by omega)
  · intro hbeyond hlength
    have hdir : s.stepIncrement.toInt = 1 := by
      rcases toInt_cases s.stepIncrement with hdir | hdir <;> rw [hdir] at htarget <;> omega
    obtain ⟨u, inp, hcourse, hinp, hfold⟩ := hstart.last hclear hlength fun j hj hle => by
      rw [OnWay, hdir]
      omega
    have hend : s.absolutePosition + s.stepIncrement.toInt * (s.upperLimit - s.absolutePosition).natAbs =
        s.upperLimit := by rw [hdir]; omega
    rw [hend] at hcourse
    rw [hfold]
    exact hcourse.refusedAbove hinp (by omega) (by omega)

end Sys2Proof.Claims
end

section
/-! PROOF. When `FH` returns and what it does when it never does (44_homing.md R213). Returning is decided sample by
sample, in each of the two loops; an endless loop is a run of pulses. -/

namespace Sys2Proof.Claims

open Sys2Proof.Machine

variable {s : State}

/-! ### The samples -/

theorem sampleAt_zero (t : SampleStream) : sampleAt t 0 = t.head := by
  cases hscript : t.script <;> simp [sampleAt, SampleStream.head, hscript]

theorem sampleAt_tail (t : SampleStream) (k : Nat) : sampleAt t.tail k = sampleAt t (k + 1) := by
  cases hscript : t.script <;> simp [sampleAt, SampleStream.tail, hscript]

/-- With no sample listed every sample is the level that follows the list. -/
theorem sampleAt_of_nil {t : SampleStream} (h : t.script = []) (k : Nat) : sampleAt t k = t.rest := by
  simp [sampleAt, h]

/-- A clear sample is still to come. -/
def Releases (t : SampleStream) : Prop := ∃ j, sampleAt t j = .clear

/-- A triggered sample is still to come, and a clear one after it. -/
def TripsThenReleases (t : SampleStream) : Prop :=
  ∃ i j, i < j ∧ sampleAt t i = .triggered ∧ sampleAt t j = .clear

theorem releases_iff (t : SampleStream) : Releases t ↔ t.head = .clear ∨ Releases t.tail := by
  constructor
  · rintro ⟨j, hj⟩
    cases j with
    | zero => exact .inl (sampleAt_zero t ▸ hj)
    | succ j => exact .inr ⟨j, (sampleAt_tail t j).trans hj⟩
  · rintro (hhead | ⟨j, hj⟩)
    · exact ⟨0, (sampleAt_zero t).trans hhead⟩
    · exact ⟨j + 1, (sampleAt_tail t j).symm.trans hj⟩

/-- After a clear sample the switch has still to trip. -/
theorem tripsThenReleases_of_clear {t : SampleStream} (h : t.head = .clear) :
    TripsThenReleases t ↔ TripsThenReleases t.tail := by
  constructor
  · rintro ⟨i, j, hij, hi, hj⟩
    cases i with
    | zero => exact nomatch h.symm.trans ((sampleAt_zero t).symm.trans hi)
    | succ i =>
      obtain ⟨j, rfl⟩ := Nat.exists_eq_add_one.2 (Nat.zero_lt_of_lt hij)
      exact ⟨i, j, Nat.succ_lt_succ_iff.1 hij, (sampleAt_tail t i).trans hi, (sampleAt_tail t j).trans hj⟩
  · rintro ⟨i, j, hij, hi, hj⟩
    exact ⟨i + 1, j + 1, Nat.succ_lt_succ hij, (sampleAt_tail t i).symm.trans hi, (sampleAt_tail t j).symm.trans hj⟩

/-- After a triggered sample the switch has only to release. -/
theorem tripsThenReleases_of_triggered {t : SampleStream} (h : t.head = .triggered) :
    TripsThenReleases t ↔ Releases t.tail := by
  constructor
  · rintro ⟨i, j, hij, -, hj⟩
    obtain ⟨j, rfl⟩ := Nat.exists_eq_add_one.2 (Nat.zero_lt_of_lt hij)
    exact ⟨j, (sampleAt_tail t j).trans hj⟩
  · rintro ⟨j, hj⟩
    exact ⟨0, j + 1, Nat.succ_pos j, (sampleAt_zero t).trans h, (sampleAt_tail t j).symm.trans hj⟩

/-! ### The return -/

/-- The back-off loop returns when a clear sample comes: within the listed ones, or at the first after them. -/
theorem homingRun_returns_from_backOff (n : Nat) (s : State) (hphase : s.homing = some .backOff)
    (hlength : s.inputs.lls.script.length = n) :
    (State.homingRun (n + 1) s).homing = none ↔ Releases s.inputs.lls := by
  induction n generalizing s with
  | zero =>
    have hnil := List.length_eq_zero_iff.1 hlength
    have hrest : s.inputs.lls.head = s.inputs.lls.rest := by rw [← sampleAt_zero, sampleAt_of_nil hnil]
    rw [homingRun_succ 0 s (by simp [hphase])]
    cases hhead : s.inputs.lls.head with
    | clear =>
      rw [homingIteration_backOff_clear s hphase hhead]
      exact iff_of_true rfl ⟨0, (sampleAt_zero _).trans hhead⟩
    | triggered =>
      rw [homingIteration_backOff_triggered s hphase hhead]
      refine iff_of_false (fun h => nomatch hphase.symm.trans h) ?_
      rintro ⟨j, hj⟩
      exact nomatch (hrest.symm.trans hhead).symm.trans ((sampleAt_of_nil hnil j).symm.trans hj)
  | succ n ih =>
    have htail : s.inputs.lls.tail.script.length = n := by simp [SampleStream.tail, hlength]
    rw [homingRun_succ _ s (by simp [hphase]), releases_iff]
    cases hhead : s.inputs.lls.head with
    | clear =>
      rw [homingIteration_backOff_clear s hphase hhead, homingRun_returned _ _ rfl]
      exact iff_of_true rfl (.inl rfl)
    | triggered =>
      rw [homingIteration_backOff_triggered s hphase hhead, ih (s.takeSample.pulse .fh .plus) hphase htail]
      simp

/-- The seek loop returns when the switch trips and then releases. -/
theorem homingRun_returns_from_seek (n : Nat) (s : State) (hphase : s.homing = some .seek)
    (hlength : s.inputs.lls.script.length = n) :
    (State.homingRun (n + 1) s).homing = none ↔ TripsThenReleases s.inputs.lls := by
  induction n generalizing s with
  | zero =>
    have hnil := List.length_eq_zero_iff.1 hlength
    have hconstant : ¬ TripsThenReleases s.inputs.lls := by
      rintro ⟨i, j, -, hi, hj⟩
      rw [sampleAt_of_nil hnil] at hi hj
      exact nomatch hi.symm.trans hj
    rw [homingRun_succ 0 s (by simp [hphase])]
    refine iff_of_false ?_ hconstant
    cases hhead : s.inputs.lls.head with
    | clear =>
      rw [homingIteration_seek_clear s hphase hhead]
      exact fun h => nomatch hphase.symm.trans h
    | triggered =>
      rw [homingIteration_seek_triggered s hphase hhead]
      exact nofun
  | succ n ih =>
    have htail : s.inputs.lls.tail.script.length = n := by simp [SampleStream.tail, hlength]
    rw [homingRun_succ _ s (by simp [hphase])]
    cases hhead : s.inputs.lls.head with
    | clear =>
      rw [homingIteration_seek_clear s hphase hhead, tripsThenReleases_of_clear hhead]
      exact ih _ hphase htail
    | triggered =>
      rw [homingIteration_seek_triggered s hphase hhead, tripsThenReleases_of_triggered hhead]
      exact homingRun_returns_from_backOff n _ rfl htail

/-- Settles O34: an accepted `FH` starts in the seek loop, with all its samples. -/
theorem findHomeReturnsIffTheSwitchReleases : Obligations.FindHomeReturnsIffTheSwitchReleases := by
  intro s henabled hswitch
  refine ⟨_, exec_fh s, ?_⟩
  rw [if_pos ⟨henabled, hswitch⟩]
  exact homingRun_returns_from_seek _ s.homingStart rfl rfl

/-! ### The endless loops -/

/-- Inside an unfinished `FH` a step is one sample. -/
theorem step_of_homing (h : s.homing ≠ none) : step s = .next s.homingIteration := by
  obtain ⟨phase, hphase⟩ := Option.ne_none_iff_exists'.1 h
  simp only [step, hphase]

theorem run_succ (M : Host.Core) (k : Nat) {s t : M.State} (h : M.step s = .next t) :
    M.run (k + 1) s = M.run k t := by
  rw [Host.Core.run, h]

/-- A loop that goes on at every sample of the level `rest` makes one pulse a step. -/
theorem run_pulses {phase : HomingPhase} {d : StepIncrement} {level : SwitchLevel}
    (hpulse : ∀ s : State, s.homing = some phase → s.inputs.lls.head = level →
      s.homingIteration = s.takeSample.pulse .fh d)
    (k : Nat) (s : State) (hphase : s.homing = some phase) (hscript : s.inputs.lls.script = [])
    (hrest : s.inputs.lls.rest = level) :
    Host.Core.run core k s = .next (afterPulses s d k []) := by
  induction k generalizing s with
  | zero => simp [Host.Core.run, afterPulses, ← hscript]
  | succ k ih =>
    have hhead : s.inputs.lls.head = level := by simp [SampleStream.head, hscript, hrest]
    have hstep : core.step s = .next (s.takeSample.pulse .fh d) :=
      (step_of_homing (by simp [hphase])).trans (congrArg _ (hpulse s hphase hhead))
    have hrun := ih (s.takeSample.pulse .fh d) hphase (by simp [SampleStream.tail, hscript]) hrest
    rw [afterPulses_pulse] at hrun
    exact (run_succ core k hstep).trans hrun

/-- Settles O35: each loop is a run of its own pulses, which writes neither the inbox, the mode nor the result. -/
theorem unfinishedHomingBlocksEverything : Obligations.UnfinishedHomingBlocksEverything := by
  intro s k hscript
  constructor
  · rintro ⟨hphase, hrest⟩
    exact ⟨_, run_pulses homingIteration_seek_clear k s hphase hscript hrest, hphase, rfl, rfl, rfl, rfl⟩
  · rintro ⟨hphase, hrest⟩
    exact ⟨_, run_pulses homingIteration_backOff_triggered k s hphase hscript hrest, hphase, rfl, rfl, rfl, rfl⟩

end Sys2Proof.Claims
end

section
/-! PROOF. The rules over all operations (10_state.md R46, R47, R50; 00_scope.md R11, R12; 60_exceptions.md R228), each by
the effects an operation can have, and the step and the port in their own equations. -/

namespace Sys2Proof.Claims

open Sys2Proof.Machine

variable {s t : State} {i : Instr}

/-! ### The writer table -/

/-- Settles O50, effect by effect: each writes the fields of its rows of the table and no others. -/
theorem fieldsChangeOnlyByTheirWriters : Obligations.FieldsChangeOnlyByTheirWriters := by
  intro i s t h
  cases effect_of_exec h with
  | reply | idle => simp [Kept]
  | en | di | es | reset | sh | sl | su | sr => simp [Kept, State.construct]
  | arm _ haccepted =>
    by_cases haway : rotateTarget s i = s.absolutePosition
    · rw [armed_here i s _ _ haway]
      simp [Kept, haccepted, planned]
    · rw [armed_away i s _ _ haway]
      simp [Kept, haccepted, Launched, haway, planned]
  | fh =>
    have hframe := homingRun_frame (s.inputs.lls.script.length + 1) s.homingStart
    have hplan := hframe.plan
    simp only [Prod.mk.injEq] at hplan
    simp [Kept, hframe.state, hframe.limits, hframe.setting, hplan]
  | refused sig _ hsig => rcases hsig with rfl | rfl <;> simp [Kept]
  | ended sig _ _ hsig => rcases hsig with rfl | rfl | rfl <;> simp [Kept, stepped]
  | continued => simp [Kept, stepped]

/-! ### The trace -/

/-- What an operation adds to the trace: its own entries, pulses by `POLL` and `FH` alone, by a poll at most one. -/
def Adds (s : State) (i : Instr) (t : State) (new : List TraceEntry) : Prop :=
  t.trace = s.trace ++ new ∧
    (∀ e ∈ new, e.op = i ∧ (i ≠ .reset → e.now = some s.inputs.now) ∧ (IsPulse e.event → i = .poll ∨ i = .fh)) ∧
    (i = .poll → new = [] ∨ new = [entry .poll s (.stepPulse s.stepIncrement)])

theorem adds_nothing (h : t.trace = s.trace) : Adds s i t [] :=
  ⟨h.trans (List.append_nil _).symm, by simp, fun _ => .inl rfl⟩

/-- The trace of a homing that has started is the direction write and what its samples add. -/
theorem adds_homing (n : Nat) (s : State) : ∃ new, Adds s .fh (State.homingRun n s.homingStart) new := by
  obtain ⟨new, htrace, hnew⟩ := (homingRun_frame n s.homingStart).trace
  rw [homingStart_trace, List.append_assoc] at htrace
  refine ⟨_, htrace, ?_, nofun⟩
  intro e he
  rcases List.mem_append.1 he with hfirst | hlater
  · obtain rfl := List.mem_singleton.1 hfirst
    exact ⟨rfl, fun _ => rfl, fun _ => .inr rfl⟩
  · obtain ⟨hop, hnow⟩ := hnew e hlater
    exact ⟨hop, fun _ => hnow, fun _ => .inr rfl⟩

/-- A poll's one pulse. -/
theorem adds_step (h : t.trace = (stepped s).trace) :
    Adds s .poll t [entry .poll s (.stepPulse s.stepIncrement)] :=
  ⟨h, by simp, fun _ => .inr rfl⟩

/-- Settles O51, effect by effect. -/
theorem traceGrowsByTaggedEvents : Obligations.TraceGrowsByTaggedEvents := by
  intro i s t h
  cases effect_of_exec h with
  | reply | sh | sl | su | sr | idle | refused => exact ⟨_, adds_nothing rfl⟩
  | en => exact ⟨_, rfl, by simp, nofun⟩
  | di => exact ⟨_, rfl, by simp, nofun⟩
  | es => exact ⟨_, List.append_assoc _ _ _, by simp, nofun⟩
  | arm _ haccepted =>
    by_cases haway : rotateTarget s i = s.absolutePosition
    · rw [armed_here i s _ _ haway]
      exact ⟨_, adds_nothing rfl⟩
    · rw [armed_away i s _ _ haway]
      exact ⟨_, rfl, by simp [planned], by rintro rfl; exact haccepted.elim⟩
  | fh => exact adds_homing _ s
  | ended | continued => exact ⟨_, adds_step rfl⟩
  | reset => exact ⟨resetEvents, rfl, by simp [resetEvents], nofun⟩

/-! ### The deadline -/

/-- Settles O52: a launch puts the deadline the guard interval from now, a step adds one interval, at most a second, and
`RESET` clears it; nothing else writes it. -/
theorem deadlineGrowsByAtMostASecond : Obligations.DeadlineGrowsByAtMostASecond := by
  intro i s t h
  have hkept : s.nextStepDeadline ≤
      max s.nextStepDeadline (s.inputs.now.toNat + s.params.tGuardUs) + 1000000 := by omega
  cases effect_of_exec h with
  | reply | en | di | es | sh | sl | su | sr | idle | refused | ended => exact hkept
  | arm =>
    by_cases haway : rotateTarget s i = s.absolutePosition
    · rw [armed_here i s _ _ haway]
      exact hkept
    · rw [armed_away i s _ _ haway]
      show s.inputs.now.toNat + s.params.tGuardUs ≤ _
      omega
  | fh =>
    have hplan := (homingRun_frame (s.inputs.lls.script.length + 1) s.homingStart).plan
    simp only [Prod.mk.injEq] at hplan
    obtain ⟨-, -, -, -, -, -, -, -, hdeadline⟩ := hplan
    exact hdeadline.trans_le hkept
  | continued =>
    have hinterval := stepInterval_le (stepped s).flooredVelocity
    show s.nextStepDeadline + stepInterval (stepped s).flooredVelocity ≤ _
    omega
  | reset => exact Nat.zero_le _

/-! ### The step -/

/-- Settles O46: a step is one of four answers, and each operation answers a next state. -/
theorem noStepStopsTheMachine : Obligations.NoStepStopsTheMachine := by
  have hexec (i : Instr) (s : State) : ∃ t, exec i s = .next t := by
    cases i <;> exact ⟨_, rfl⟩
  refine ⟨fun s => ?_, hexec⟩
  rcases step_cases s with ⟨-, he⟩ | ⟨-, -, he⟩ | ⟨p, later, i, -, -, -, he⟩ | ⟨p, later, kind, -, -, -, he⟩
  · exact ⟨_, he⟩
  · exact ⟨_, he⟩
  · rw [he]
    exact hexec i _
  · exact ⟨_, he⟩

/-- Settles O40. -/
theorem nothingPresentedNothingHappens : Obligations.NothingPresentedNothingHappens := by
  intro s hreturned hinbox
  simp only [step, hreturned, hinbox]

theorem step_of_decode_ok {p : Presented} {later : List Presented} (hreturned : s.homing = none)
    (hinbox : s.inbox = p :: later) (hdecode : decode p.request = .ok i) :
    step s = exec i (s.present p later) := by
  simp only [step, hreturned, hinbox, hdecode]

theorem inputsAt_eq (s : State) (p : Presented) :
    s.inputsAt p = if p.request = .reset then s.inputs else p.inputs := by
  unfold State.inputsAt
  cases hrequest : p.request <;> rfl

/-- Settles O38: the head of the inbox is presented, with the inputs it hands over. -/
theorem stepRunsTheDecodedOperation : Obligations.StepRunsTheDecodedOperation := by
  intro s p later i hreturned hinbox _ hdecode
  rw [step_of_decode_ok hreturned hinbox hdecode, State.present, inputsAt_eq]

/-! ### The lockout -/

/-- What the lockout keeps from `s` to `t`: the mode, both counts, `out.dir` and the loss of home, with no event but the
line writes of `ES`. -/
def LockedOut (s t : State) : Prop :=
  t.state = .estopped ∧ t.absolutePosition = s.absolutePosition ∧ t.deltaPosition = s.deltaPosition ∧
    t.outDir = s.outDir ∧ t.homing = none ∧ (s.homed = false → t.homed = false) ∧
    ∃ new, t.trace = s.trace ++ new ∧
      ∀ e ∈ new, e.op = .es ∧ (e.event = .stepWrite .inactive ∨ e.event = .enWrite .inactive)

/-- What writes none of these fields keeps the lockout. -/
theorem lockedOut_of_frame (hstate : t.state = .estopped) (hreturned : t.homing = none)
    (hpos : t.absolutePosition = s.absolutePosition ∧ t.deltaPosition = s.deltaPosition)
    (hdir : t.outDir = s.outDir) (hhomed : t.homed = s.homed) (htrace : t.trace = s.trace) : LockedOut s t :=
  ⟨hstate, hpos.1, hpos.2, hdir, hreturned, fun h => hhomed.trans h,
    [], htrace.trans (List.append_nil _).symm, List.forall_mem_nil _⟩

/-- Only `EN`, `DI` and `RESET` lead out of the lockout: arming, `SH` and `FH` need `ENABLED`, a due poll needs
`RUNNING`. -/
theorem lockedOut_exec (hlocked : s.state = .estopped) (hreturned : s.homing = none)
    (hother : i ≠ .en ∧ i ≠ .di ∧ i ≠ .reset) (h : exec i s = .next t) : LockedOut s t := by
  obtain ⟨hen, hdi, hreset⟩ := hother
  have hidle : s.state ≠ .enabled := fun henabled => nomatch hlocked.symm.trans henabled
  have hstill : s.state ≠ .running := fun hrunning => nomatch hlocked.symm.trans hrunning
  cases effect_of_exec h with
  | en => exact absurd rfl hen
  | di => exact absurd rfl hdi
  | reset => exact absurd rfl hreset
  | es => exact ⟨rfl, rfl, rfl, rfl, hreturned, fun _ => rfl, _, List.append_assoc _ _ _, by simp⟩
  | reply | sl | su | sr | idle => exact lockedOut_of_frame hlocked hreturned ⟨rfl, rfl⟩ rfl rfl rfl
  | sh henabled | fh henabled => exact absurd henabled hidle
  | arm _ haccepted => exact absurd haccepted.enabled hidle
  | refused _ hdue | ended _ hdue | continued hdue => exact absurd hdue.2.1 hstill

/-- Settles O8: the step waits, runs an operation that is none of the three, or answers a text. -/
theorem lockoutHoldsUntilEnable : Obligations.LockoutHoldsUntilEnable := by
  intro s t hlocked hreturned hother h
  show LockedOut s t
  rcases step_cases s with ⟨hunfinished, -⟩ | ⟨-, -, he⟩ | ⟨p, later, i, -, hinbox, hdecode, he⟩ |
    ⟨p, later, kind, -, -, -, he⟩
  · exact absurd hreturned hunfinished
  · cases he.symm.trans h
    exact lockedOut_of_frame hlocked hreturned ⟨rfl, rfl⟩ rfl rfl rfl
  · have hnone := hother p (by rw [hinbox]; rfl)
    rw [hdecode] at hnone
    simp only [ne_eq, Except.ok.injEq] at hnone
    exact lockedOut_exec (s := s.present p later) hlocked hreturned hnone (he.symm.trans h)
  · cases he.symm.trans h
    exact lockedOut_of_frame hlocked hreturned ⟨rfl, rfl⟩ rfl rfl rfl

/-! ### Emergency stop, the ramp length, the remaining time, the port -/

/-- Settles O7: `ES` is two line writes, the change to `ESTOPPED`, the loss of home and the pinned target. -/
theorem emergencyStopLocksOut : Obligations.EmergencyStopLocksOut := by
  intro s
  show Host.Outcome.next _ = _
  simp [State.driveStep, State.driveEn, State.emit, State.clearHomed, State.reply]

/-- A move longer than two ramps has the whole ramp of its increment. -/
theorem armed_rampSteps (s : State) (target : Int) (vmax : Nat) (i : Instr)
    (h : (target - s.absolutePosition).natAbs > 2 * rampLength s.velocityIncrement vmax) :
    (armed i s target vmax).rampSteps = rampLength s.velocityIncrement vmax := by
  have hramp : (planned s target vmax).rampSteps = rampLength s.velocityIncrement vmax := (plan_of_trapezoid h).1
  unfold armed
  split_ifs <;> exact hramp

/-- After `SR` a long enough move has the whole ramp of the table's entry. -/
theorem rampSteps_of_sr_ra {a b : State} {r vel : Nat} {v : Int} (henabled : s.state = .enabled) (hr : r ≤ 9)
    (hlong : (v - s.absolutePosition).natAbs > 2 * rampLength (s.params.vinc r) vel)
    (hsr : exec (.sr r) s = .next a) (hra : exec (.ra vel v) a = .next b) :
    b.rampSteps = rampLength (s.params.vinc r) vel := by
  rw [exec_sr, if_pos hr] at hsr
  cases hsr
  have haccepted : Accepted (({ s with velocityIncrement := s.params.vinc r } : State).reply .empty) (.ra vel v) :=
    henabled
  cases (exec_eq_armed haccepted).symm.trans hra
  exact armed_rampSteps _ v vel _ hlong

/-- The ramp to a velocity by a table entry past the first, as R153 has it. -/
theorem rampLength_vinc {p : Params} (hp : p.Wf) {r : Nat} (hr : 0 < r) (hr9 : r ≤ 9) (vel : Nat) :
    rampLength (p.vinc r) vel = vel / (p.kRamp / r) := by
  have hentry := eight_le_vinc hp hr hr9
  rw [rampLength, if_neg (by omega), vinc_of_pos p hr]

/-- A larger factor has a smaller entry, hence a longer ramp. -/
theorem rampLength_mono {p : Params} (hp : p.Wf) {r r' : Nat} (hr : 0 < r) (hle : r ≤ r') (hr9 : r' ≤ 9) (vel : Nat) :
    vel / (p.kRamp / r) ≤ vel / (p.kRamp / r') := by
  have hentry := eight_le_vinc hp (hr.trans_le hle) hr9
  rw [vinc_of_pos p (hr.trans_le hle)] at hentry
  exact Nat.div_le_div_left (Nat.div_le_div_left hle hr) (by omega)

/-- Settles O12: the move is long enough for the ramp of the larger factor, so for the shorter one of the smaller, and
for none. -/
theorem rampLengthGrowsWithTheFactor : Obligations.RampLengthGrowsWithTheFactor := by
  intro s a b a' b' r r' vel v henabled hparams hr hle hr9 _ _ hlong hsr hra hsr' hra'
  have hr' : 0 < r' := hr.trans hle
  have hmono := rampLength_mono hparams hr hle hr9 vel
  have hlength := rampLength_vinc hparams hr (hle.trans hr9) vel
  have hlength' := rampLength_vinc hparams hr' hr9 vel
  have hb := rampSteps_of_sr_ra henabled (hle.trans hr9) (by omega) hsr hra
  have hb' := rampSteps_of_sr_ra henabled hr9 (by omega) hsr' hra'
  refine ⟨hb.trans hlength, hb'.trans hlength', by omega, fun z z' hz hz' => ?_⟩
  have hnone : rampLength (s.params.vinc 0) vel = 0 := if_pos (vinc_zero s.params)
  exact (rampSteps_of_sr_ra henabled (Nat.zero_le 9) (by omega) hz hz').trans hnone

theorem exec_gt (s : State) : exec .gt s = .next (s.reply (.number s.remTime)) := rfl

/-- Settles O29: `GT` is a reply of the estimate, which reads the fields of the record and the parameter alone. -/
theorem remainingTimeFollowsTheEstimate : Obligations.RemainingTimeFollowsTheEstimate := by
  refine ⟨exec_gt, fun s t u inp inbox trace result ht hu => ?_⟩
  cases (exec_gt s).symm.trans ht
  cases (exec_gt _).symm.trans hu
  rw [reply_result, reply_result]
  exact congrArg (fun n : Nat => OpResult.replied (.number n)) (remTime_congr _ s rfl rfl)

/-- Settles O53: a pulse of a poll has no homing delay, and the level that means `ACTIVE` is the polarity. -/
theorem pulseIsActiveThenInactiveAtThePort : Obligations.PulseIsActiveThenInactiveAtThePort := by
  intro p now d
  simp [TraceEntry.portCalls, DriveLevel.pin]

end Sys2Proof.Claims
end
